-- ==== Sys2Proof/Word.lean ====
section
/-! DEFINITION. The plain number types of the model: a byte of a serial link and the bounded numbers that name
places in fixed tables (00_scope.md section 0.5; a slot is 0..63, a bin 1..24, a switchable bank 1..3). -/

namespace Sys2Proof

/-- One byte of the order link or of the raster port (R177, R70). -/
abbrev Byte := BitVec 8

/-- The place of an order record in the Order Table, 0..63 (01_orders.md section 1.1). -/
abbrev Slot := Fin 64

/-- A bin by its place in the bin table: the value k stands for bin number k + 1 (section 7.2). -/
abbrev BinIx := Fin 24

/-- A switchable price bank: the value k stands for bank number k + 1 (section 8.1). -/
abbrev SwBank := Fin 3

/-- A bank of the price book: 0 is the common bank, 1..3 the switchable banks (section 8.1, R189). -/
abbrev BankIx := Fin 4

/-- The three colour channels R, G, B of a value held per channel (section 4.1). -/
structure Rgb (α : Type) where
  r : α
  g : α
  b : α
deriving DecidableEq, Repr

/-- Applies `f` to each of the three channels. -/
def Rgb.map {α β : Type} (f : α → β) (x : Rgb α) : Rgb β := ⟨f x.r, f x.g, f x.b⟩

/-- The three channels in the sequence R, G, B. -/
def Rgb.toList {α : Type} (x : Rgb α) : List α := [x.r, x.g, x.b]

end Sys2Proof
end

