-- ==== Sys2Proof/Syntax.lean ====
section
/-! DEFINITION. The commands of the 7340: one constructor of `Instr` for each row of spec/opcode_table.json.
The 31 request rows and MALFORMED carry no operand: the request's fields are in the oldest frame of the
receive buffer, from which the Link Interface takes it (R178; log entry 2). -/

namespace Sys2Proof

/-- The three jam sensors on the web (section 9.2). The sorter's jam has no sensor line. -/
inductive JamSensor where
  | j1 | j2 | j3
deriving DecidableEq, Repr

/-- The 26 drop points of the sorter path (section 7.4): the bins, the bulk tray, the reject chute. -/
inductive DropPoint where
  | bin (b : BinIx)
  | tray
  | reject
deriving DecidableEq, Repr

/-- The 25 places that have a presence sensor (chapter 7): the bins and the bulk tray. -/
inductive Container where
  | bin (b : BinIx)
  | tray
deriving DecidableEq, Repr

/-- The status of a DONE record (section 4.3). -/
inductive DoneStatus where
  | good | fault
deriving DecidableEq, Repr

/-- The commands: one constructor per row of spec/opcode_table.json, in the table's order. -/
inductive Instr where
  /-- POWER_ON (R188): the supply becomes good. -/
  | powerOn
  /-- RESET_LINE (R188): the asserted RESET line is released. -/
  | resetLine
  /-- REQUEST_FRAME (R177, R178): bytes arrive on the order link with no gap above 10 ms between them. -/
  | requestFrame (bytes : List Byte)
  /-- FRAME_TIMEOUT (R177): more than 10 ms pass with a frame incomplete. -/
  | frameTimeout
  /-- FRAME_SENT (R180): the order link transmitter has sent the last byte of its frame. -/
  | frameSent
  /-- MALFORMED (R179): the oldest frame is taken and is no well-formed request. -/
  | malformed
  /-- ADMIT_ORDER (R5 to R8). -/
  | admitOrder
  /-- CANCEL_ORDER (R16, R17). -/
  | cancelOrder
  /-- HOLD_ORDER (R20). -/
  | holdOrder
  /-- RELEASE_ORDER (R20). -/
  | releaseOrder
  /-- ACCEPT_ORDER (R13). -/
  | acceptOrder
  /-- QUERY_ORDER (R21). -/
  | queryOrder
  /-- QUOTE_ORDER (R159). -/
  | quoteOrder
  /-- REPRICE_ORDER (R160). -/
  | repriceOrder
  /-- SET_SIZE (R29). -/
  | setSize
  /-- LOAD_MAGAZINE (R31). -/
  | loadMagazine
  /-- UNLOAD_MAGAZINE (R32). -/
  | unloadMagazine
  /-- SET_DRIFT (R34). -/
  | setDrift
  /-- SET_STATIONS (R92). -/
  | setStations
  /-- SET_LIMITS (R182). -/
  | setLimits
  /-- SET_FAULT_COUNT (R119). -/
  | setFaultCount
  /-- SET_PRICE (R145). -/
  | setPrice
  /-- CLEAR_PRICE (R146). -/
  | clearPrice
  /-- SET_PROMOTION (R149). -/
  | setPromotion
  /-- SET_TAX (R151). -/
  | setTax
  /-- SELECT_BANK (R148). -/
  | selectBank
  /-- SET_PATTERN (R174). -/
  | setPattern
  /-- SILENCE (R175). -/
  | silence
  /-- QUERY_BINS (R142). -/
  | queryBins
  /-- QUERY_STATUS (R189). -/
  | queryStatus
  /-- ENTER_SETUP (R186). -/
  | enterSetup
  /-- ENTER_RUN (R184). -/
  | enterRun
  /-- PAUSE (R185). -/
  | pause
  /-- CONTINUE (R185). -/
  | continueRun
  /-- RESUME (R170). -/
  | resume
  /-- CUTTER_RESTART (R115). -/
  | cutterRestart
  /-- RESTART (R187). -/
  | restart
  /-- READY (R74): a READY record that passed the port's checks, with its tag. -/
  | ready (tag : Nat)
  /-- DONE (R80): a DONE record that passed the port's checks, with its tag and status. -/
  | done (tag : Nat) (status : DoneStatus)
  /-- RASTER_FRAME_DISCARD (R70): bytes arrive on the raster port and go through its receiver. `stalls` says that
  after them more than 10 ms pass before the next byte. -/
  | rasterFrameDiscard (bytes : List Byte) (stalls : Bool)
  /-- READY_TIMER_EXPIRED (R75): the READY timer of the call with this tag runs out. -/
  | readyTimerExpired (tag : Nat)
  /-- DONE_TIMER_EXPIRED (R81): the DONE timer of the call with this tag runs out. -/
  | doneTimerExpired (tag : Nat)
  /-- THREADING_TIMER_EXPIRED (R42). -/
  | threadingTimerExpired
  /-- SORT_TIMER_EXPIRED (R131). -/
  | sortTimerExpired
  /-- SOAK_TIMER_EXPIRED (R169). -/
  | soakTimerExpired
  /-- ENCODER_EVENT (R93): net forward movement of 1..255 web units. -/
  | encoderEvent (distance : Nat)
  /-- PAPER_AT_HEAD (R41): the paper-at-head sensor goes asserted. -/
  | paperAtHead
  /-- JAM_SENSOR_ASSERTED (R166). -/
  | jamSensorAsserted (sensor : JamSensor)
  /-- JAM_SENSOR_CLEAR (R167). -/
  | jamSensorClear (sensor : JamSensor)
  /-- MARK_SENSED (R106). -/
  | markSensed
  /-- DROP_EVENT (R132 to R134): the drop sensor of this point reports a print. -/
  | dropEvent (point : DropPoint)
  /-- PRESENCE_EMPTY (R136): the presence sensor reports the place empty. -/
  | presenceEmpty (place : Container)
  /-- PRESENCE_OCCUPIED (R137): the presence sensor reports the place occupied. -/
  | presenceOccupied (place : Container)
  /-- EXPOSURE_BEGIN (R77). -/
  | exposureBegin
  /-- EXPOSURE_END (R79). -/
  | exposureEnd
  /-- FEED_CUT (R40). -/
  | feedCut
  /-- MARK_STRIP_ENTRY (R116). -/
  | markStripEntry
  /-- PURGE_END (R102). -/
  | purgeEnd
  /-- RESET_LINE_ASSERTED (R188). -/
  | resetLineAsserted
  /-- RASTER_RECORD_SENT (R70): the last byte of a raster port record has been sent. -/
  | rasterRecordSent
  /-- ANNUNCIATOR_ENVELOPE_EDGE (R173): the next half period of an envelope rate of the driving condition ends. -/
  | annunciatorEnvelopeEdge
deriving DecidableEq, Repr

end Sys2Proof
end

