-- ==== Sys2Proof/Config.lean ====
section
/-! DEFINITION. What every 7340 fixes (capacities and fixed timeouts), and the one free value of the model. -/

namespace Sys2Proof.Config

/-- The receive buffer holds at most 4 request frames (R178). -/
def bufferCap : Nat := 4
/-- The reply list holds at most 8 replies (R180). -/
def replyCap : Nat := 8
/-- The notice queue holds at most 32 notices (R181). -/
def noticeCap : Nat := 32
/-- The dropped count, the reject count and the units of a bin are held at 65,535 (R181, R141, R123). -/
def max16 : Nat := 65535
/-- The last admit sequence number: the counter does not wrap (R1). -/
def maxSequence : Nat := 4294967295
/-- MAX_AMOUNT of the money arithmetic (section 0.5, R156). -/
def maxAmount : Nat := 2147483647
/-- The web queue holds at most 192 segments (R90). -/
def webCap : Nat := 192
/-- The pipeline holds at most 2 calls (R73). -/
def pipelineCap : Nat := 2
/-- The transit list holds at most 8 items (R128). -/
def transitCap : Nat := 8
/-- Mark memory and purge distance are held at 200,000 (R106, R101). -/
def maxDistance : Nat := 200000
/-- A magazine holds at most 1,800,000 web units (R31). -/
def maxRoll : Nat := 1800000
/-- The low threshold taken when LOAD MAGAZINE gives none (R31). -/
def defaultLow : Nat := 50000
/-- Marks checked and strips entered in one recovery attempt (R116, R117). -/
def recoveryCap : Nat := 1024
/-- Length of a mark strip in web units (R116). -/
def stripLength : Nat := 40
/-- A purge chops the blank web every 1,000 units (R107). -/
def chopLength : Nat := 1000
/-- CHANGE_TIMEOUT in seconds (R42). -/
def changeTimeout : Nat := 60
/-- DONE_TIMEOUT in milliseconds (R79). -/
def doneTimeout : Nat := 1000
/-- SORT_TIMEOUT in milliseconds (R128). -/
def sortTimeout : Nat := 3000
/-- The widening of the gap in BLIND (R69). -/
def blindGap : Nat := 30

/-- FREE VALUE (log entry 4). The seconds left to the expiry of the soak timer that a QUERY STATUS reports
(R176): the model has no clock, so nothing fixes them but the bound of the timer's load. It is applied to the
free-value counter of the state; nothing can be proved of it. -/
opaque soakSecondsLeft : Nat → Nat

end Sys2Proof.Config
end

