-- ==== Sys2Proof/Machine/State.lean ====
section
/-! DEFINITION. The state of the 7340 as plain data: the eleven blocks of 00_scope.md section 0.2, the output
lines of section 10.10, the queue of waiting commands, and the state after power-on. INVENTORY.md lists every
field with the rule that names it. -/

namespace Sys2Proof.Machine

open Sys2Proof

/-! ## Names -/

/-- Print or index print: the kind of a size entry, a line, a call and an item (sections 1.3, 2.1, 4.4, 7.4). -/
inductive PrintKind where
  | print | index
deriving DecidableEq, Repr

/-- The seven web widths in mm (section 2.2). -/
inductive Width where
  | w89 | w102 | w127 | w152 | w203 | w254 | w305
deriving DecidableEq, Repr

/-- The class of an order (section 1.2). -/
inductive OrderClass where
  | express | standard
deriving DecidableEq, Repr

/-- The states of an order (section 1.5). -/
inductive OrderState where
  | waiting | printing | ready | attention | cancelling | cancelled
deriving DecidableEq, Repr

/-- The causes of a void (section 5.1). -/
inductive VoidCause where
  | cutterMiss | rasterFault | misroute | jamVoid | soakVoid | haltVoid | cancelVoid
deriving DecidableEq, Repr

/-- The two magazines (section 2.3). -/
inductive MagId where
  | a | b
deriving DecidableEq, Repr

/-- The states of a magazine that holds a record; ABSENT is the absence of the record (section 2.3). -/
inductive MagState where
  | loaded | active | empty
deriving DecidableEq, Repr

/-- The engine states (section 10.5). -/
inductive EngineState where
  | setup | run | paused | halted | recovery
deriving DecidableEq, Repr

/-- The reset causes (section 10.5). -/
inductive ResetCause where
  | powerOn | resetLine | restart
deriving DecidableEq, Repr

/-- The halt causes (section 9.1). -/
inductive HaltCause where
  | jam | cutter | raster | magazine
deriving DecidableEq, Repr

/-- Where a JAM came from (R163). -/
inductive JamSource where
  | j1 | j2 | j3 | sorter
deriving DecidableEq, Repr

/-- The result codes 1..16 of a reply that refuses (section 10.2). -/
inductive RefusalCode where
  | mode | full | duplicate | unknown | badProduct | badValue | inUse | bankInUse | tooLarge | complete
  | webBusy | condition | noPaper | busy | malformed | frameError
deriving DecidableEq, Repr

/-- The annunciator conditions, highest priority first (R172). -/
inductive Condition where
  | jam | cutterHalt | rasterMagazineHalt | binWait | expressReady | paperLow
deriving DecidableEq, Repr

/-! ## Order Table (chapter 1) -/

/-- The tally of an order (section 8.7). Its presence is the committed flag (R157, R158). -/
structure Tally where
  gross : Nat
  discount : Nat
  net : Nat
  tax : Nat
  creditApplied : Nat
  total : Nat
  so : Bool
  floored : Bool
  unpriced : Bool
deriving DecidableEq, Repr

/-- A line record (section 1.3), with the Frame Scheduler's paper-needed mark of the line (R63). -/
structure Line where
  kind : PrintKind
  product : Nat
  image : Nat
  corr : Rgb Int
  qty : Nat
  queued : Nat
  owed : Nat
  onWeb : Nat
  delivered : Nat
  cancelled : Nat
  remakesUsed : Nat
  short : Bool
  limited : Bool
  clamped : Bool
  paperMark : Bool
deriving DecidableEq, Repr

/-- One entry of an order's bin chain: the bin and its chain position (R3). -/
structure ChainEntry where
  bin : BinIx
  pos : Nat
deriving DecidableEq, Repr

/-- An order record (section 1.2). `priceFault` and `shortReason` are the attention reasons. -/
structure Order where
  number : Nat
  cls : OrderClass
  customer : Nat
  bank : SwBank
  credit : Option Nat
  lines : List Line
  state : OrderState
  priceFault : Bool
  shortReason : Bool
  held : Bool
  disturbed : Bool
  bulk : Bool
  bins : List ChainEntry
  trayHeld : Bool
  inFlight : Nat
  tally : Option Tally
  seq : Nat
deriving DecidableEq, Repr

/-- The Order Table: 64 records, the admit sequence counter (R1) and REMAKE_LIMIT (R25). -/
structure OrderTable where
  recs : Vector (Option Order) 64
  seq : Nat
  remakeLimit : Nat
deriving DecidableEq, Repr

/-! ## Magazine Controller (chapter 2) -/

/-- A size entry (section 2.1). -/
structure SizeEntry where
  product : Nat
  kind : PrintKind
  width : Width
  length : Nat
  units : Nat
deriving DecidableEq, Repr

/-- A magazine record (section 2.3). -/
structure MagRec where
  state : MagState
  width : Width
  remaining : Nat
  low : Nat
  lowReported : Bool
  base : Rgb Nat
  offset : Rgb Int
deriving DecidableEq, Repr

/-- The changeover operation (section 2.6). The threading timer runs exactly in THREADING. -/
inductive Changeover where
  | idle
  | pending (target : MagId) (source : Option MagId)
  | threading (target : MagId) (source : Option MagId)
deriving DecidableEq, Repr

/-- The Magazine Controller: size table, both magazines (none is ABSENT), selector, changeover, drift. -/
structure Magazines where
  sizes : Vector (Option SizeEntry) 32
  magA : Option MagRec
  magB : Option MagRec
  selector : Option MagId
  change : Changeover
  drift : Rgb Int
deriving DecidableEq, Repr

/-! ## Frame Scheduler (chapter 3) -/

/-- The three lists, the slice counter S, STANDARD_SLICE and the bin-wait set (sections 3.1, 3.4, 3.7). -/
structure Scheduler where
  remake : List Slot
  express : List Slot
  standard : List Slot
  slice : Nat
  standardSlice : Nat
  binWait : List Slot
deriving DecidableEq, Repr

/-! ## Exposure Sequencer (chapter 4) -/

/-- The states of a raster call (section 4.4). -/
inductive CallState where
  | preparing | ready | exposing | awaitingDone
deriving DecidableEq, Repr

/-- A raster call (section 4.4). `timer` is the load in ms of the READY or DONE timer while it runs. -/
structure Call where
  tag : Nat
  slot : Slot
  line : Nat
  kind : PrintKind
  image : Nat
  width : Width
  length : Nat
  gap : Nat
  times : Rgb Nat
  state : CallState
  early : Option DoneStatus
  segment : Option Nat
  timer : Option Nat
deriving DecidableEq, Repr

/-- The records the controller sends on the raster port (section 4.3). -/
inductive PortRecord where
  | frameCall (tag image : Nat) (kind : PrintKind) (width : Width) (length : Nat) (times : Rgb Nat)
  | callCancel (tag : Nat)
deriving DecidableEq, Repr

/-- The Exposure Sequencer: the pipeline, miss count, tag counter, trailing-segment record, GAP, READY_TIMEOUT,
the port's send queue with its transmitter, and the port's frame receiver (`none` is hunting; R70). -/
structure Exposure where
  calls : List Call
  miss : Nat
  lastTag : Nat
  trailing : Option Nat
  gap : Nat
  readyTimeout : Nat
  port : List PortRecord
  portBusy : Bool
  rx : Option (List Byte)
deriving DecidableEq, Repr

/-! ## Web Tracker (chapter 5) -/

/-- The kinds of segment (section 5.1). -/
inductive SegKind where
  | print | index | paperEnd | markStrip
deriving DecidableEq, Repr

/-- The copy a segment carries: its order's slot and line number 1..17 (section 5.1). -/
structure Copy where
  slot : Slot
  line : Nat
deriving DecidableEq, Repr

/-- A segment (section 5.1). `sid` is the model's name for it; `void` is none while LIVE, else the cause. -/
structure Segment where
  sid : Nat
  kind : SegKind
  copy : Option Copy
  lead : Int
  length : Nat
  width : Width
  gap : Nat
  void : Option VoidCause
  presented : Bool
  tag : Nat
deriving DecidableEq, Repr

/-- The transport states (section 5.4). -/
inductive Transport where
  | stopped | running | idle
deriving DecidableEq, Repr

/-- The four stations (section 5.2). -/
structure Stations where
  pIn : Nat
  pOut : Nat
  dry : Nat
  cut : Nat
deriving DecidableEq, Repr

/-- The purge record while IN PROGRESS (section 5.7). -/
structure Purge where
  target : Int
  moved : Nat
deriving DecidableEq, Repr

/-- The Web Tracker: web queue (oldest first), stations, transport, purge record (none is OFF). `nextSid` is the
model's counter for segment names. -/
structure Web where
  queue : List Segment
  stations : Stations
  transport : Transport
  purge : Option Purge
  nextSid : Nat
deriving DecidableEq, Repr

/-! ## Cutter (chapter 6) -/

/-- The mark memory when it holds a mark (R106). -/
structure Mark where
  m : Nat
  matched : Bool
deriving DecidableEq, Repr

/-- The open mark check: the front segment, with the MARK_WINDOW in force when it opened (R108, R114). -/
structure Check where
  sid : Nat
  window : Nat
deriving DecidableEq, Repr

/-- The kinds of recovery (section 6.4). -/
inductive RecoveryKind where
  | none | full | short
deriving DecidableEq, Repr

/-- The recovery record (section 6.4). -/
structure Recovery where
  kind : RecoveryKind
  runLength : Nat
  remaining : Nat
  checked : Nat
  entered : Nat
  ret : EngineState
  shortDue : Bool
deriving DecidableEq, Repr

/-- The Cutter: mark memory, check in hand, fault count, limits, recovery record, chop distance. -/
structure Cutter where
  mark : Option Mark
  check : Option Check
  count : Nat
  warningLimit : Nat
  markWindow : Nat
  recovery : Recovery
  chop : Nat
deriving DecidableEq, Repr

/-! ## Sorter (chapter 7) -/

/-- The states of a bin or of the tray (section 7.2). -/
inductive BinState where
  | free | owned | ready | stale
deriving DecidableEq, Repr

/-- A bin record or the tray record (section 7.2; the tray has no chain position). `occupied` is the level of its
presence sensor. -/
structure Bin where
  state : BinState
  owner : Option Slot
  pos : Option Nat
  used : Nat
  routed : Nat
  occupied : Bool
deriving DecidableEq, Repr

/-- The need record of an occupied slot (R122). -/
structure Need where
  bins : Nat
  bulk : Bool
deriving DecidableEq, Repr

/-- An item of the transit list (section 7.4). -/
structure Item where
  kind : PrintKind
  copy : Copy
  void : Option VoidCause
  units : Nat
  dest : DropPoint
deriving DecidableEq, Repr

/-- The Sorter: bins, tray, need records, transit list (oldest first), sort timer (its load in ms while it runs),
reject count and limits. -/
structure Sorter where
  bins : Vector Bin 24
  tray : Bin
  needs : Vector (Option Need) 64
  transit : List Item
  timer : Option Nat
  reject : Nat
  expressReserve : Nat
  binCapacity : Nat
  bulkCapacity : Nat
deriving DecidableEq, Repr

/-! ## Pricing Unit (chapter 8) -/

/-- The price modes (section 8.1). -/
inductive PriceMode where
  | graduated | block
deriving DecidableEq, Repr

/-- A tier: ending quantity and unit price (section 8.1). -/
structure Tier where
  ending : Nat
  price : Nat
deriving DecidableEq, Repr

/-- A price entry (section 8.1). -/
structure PriceEntry where
  product : Nat
  mode : PriceMode
  tiers : List Tier
  tax : Fin 4
deriving DecidableEq, Repr

/-- A code and mask pair of a promotion (section 8.3). -/
structure CodeMask where
  code : BitVec 12
  mask : BitVec 12
deriving DecidableEq, Repr

/-- The kinds of promotion with their parameters (section 8.3). -/
inductive Discount where
  | percent (p : Nat)
  | perPrint (a : Nat)
  | bundle (n m : Nat)
deriving DecidableEq, Repr

/-- A full promotion entry (section 8.3). DUAL is the presence of `second`; bit k of `classes` is class k. -/
structure Promotion where
  active : Bool
  first : CodeMask
  second : Option CodeMask
  classes : BitVec 16
  kind : Discount
deriving DecidableEq, Repr

/-- The Pricing Unit: price book, selected bank, latch counts, promotions (none is the empty form), tax rates. -/
structure Pricing where
  book : Vector (Vector (Option PriceEntry) 32) 4
  selected : SwBank
  latch : Vector Nat 3
  promotions : Vector (Option Promotion) 16
  tax : Vector Nat 4
deriving DecidableEq, Repr

/-! ## Stop Control (chapter 9) -/

/-- An annunciator pattern: which of the rates 1, 2, 4, 8 Hz are in the set, and the buzzer flag (R173). -/
structure Pattern where
  hz1 : Bool
  hz2 : Bool
  hz4 : Bool
  hz8 : Bool
  buzzer : Bool
deriving DecidableEq, Repr

/-- Stop Control: halt cause set (in the sequence the causes were added), return state, levels of the jam sensor
inputs, jam latch, soak timer (its load in s while it runs), SOAK_LIMIT, patterns by condition, mute flag, the
conditions last reported active (highest priority first), and the place of the envelopes in sixteenths of a
second since their last restart, modulo 16. -/
structure StopControl where
  causes : List HaltCause
  ret : Option EngineState
  j1 : Bool
  j2 : Bool
  j3 : Bool
  latch : Bool
  soak : Option Nat
  soakLimit : Nat
  patterns : Vector Pattern 6
  mute : Bool
  active : List Condition
  phase : Nat
deriving DecidableEq, Repr

/-! ## Link Interface (chapter 10) -/

/-- A frame of the order link that passed its check: kind, tag, body (section 10.1). -/
structure Frame where
  kind : Byte
  tag : Byte
  body : List Byte
deriving DecidableEq, Repr

/-- A reply (R179): the tag and kind of its request, the refusal code or none when it accepts, and the result
bytes that follow the code. -/
structure Reply where
  tag : Byte
  request : Byte
  refusal : Option RefusalCode
  data : List Byte
deriving DecidableEq, Repr

/-- The notices of section 10.8 with the fields their rules name. -/
inductive Notice where
  | started (cause : ResetCause) (nextSeq count : Nat)
  | orderReady (order : Nat) (slot : Slot) (total : Nat) (disturbed : Bool)
  | orderAttention (order : Nat) (slot : Slot) (total : Nat) (disturbed priceFault shortReason : Bool)
  | orderCollected (order : Nat)
  | orderCancelled (order : Nat)
  | binWait (order : Nat) (slot : Slot) (cls : OrderClass) (need : Nat) (bulk : Bool)
  | binDisturbed (place : Container) (order : Nat) (slot : Slot)
  | paperNeeded (order : Nat) (slot : Slot) (line product : Nat) (width : Width)
  | paperLow (mag : MagId) (width : Width) (remaining : Nat)
  | magazineEmpty (mag : MagId) (width : Width)
  | changeoverDone (mag : MagId) (width : Width) (remaining : Nat)
  | halted (cause : HaltCause) (causes : List HaltCause) (ret : EngineState)
      (jam : Option (JamSource × Nat))
  | cutterWarning (count limit : Nat)
  | cutterBlind (count limit : Nat)
  | cutterMarked (count limit : Nat)
  | recoveryDone (count : Nat) (ret : EngineState)
  | recoveryFailed (count checked : Nat)
  | soakExpired (voided : Nat) (causes : List HaltCause)
  | noticesLost (dropped : Nat)
deriving DecidableEq, Repr

/-- What the order link transmitter is sending: the oldest reply, the oldest notice, or nothing (R180). -/
inductive Sending where
  | nothing | reply | notice
deriving DecidableEq, Repr

/-- The Link Interface: frame receiver (`none` is hunting, else the bytes after the start byte), receive buffer,
reply list, notice queue, NOTICES LOST flag, dropped count, transmitter. -/
structure Link where
  rx : Option (List Byte)
  buffer : List Frame
  replies : List Reply
  notices : List Notice
  lost : Bool
  dropped : Nat
  sending : Sending
deriving DecidableEq, Repr

/-! ## Engine Control, output lines, the model's own fields -/

/-- Engine Control (section 10.5), with the level of the RESET line (R188). -/
structure Engine where
  state : EngineState
  webUnknown : Bool
  resetCause : ResetCause
  resetAsserted : Bool
deriving DecidableEq, Repr

/-- A momentary output (log entry 17): the feed cut stroke (R40), a blade stroke at a mark, at a trail or of the
purge's chop (R109, R107) with the web point cut, measured downstream of CUT_POS, or a cut mark written by the
mark lamp at the trail of a segment (R79, R116). -/
inductive Strobe where
  | feedCut
  | bladeAtMark (point : Int)
  | bladeAtTrail (point : Int)
  | bladeChop
  | markWritten (sid : Nat)
deriving DecidableEq, Repr

/-- The output lines (section 10.10): the levels, and the momentary outputs given since the last power-on values,
oldest first. -/
structure Lines where
  transportDrive : Bool
  threadA : Bool
  threadB : Bool
  exposeGate : Bool
  sortDrive : Bool
  destination : Nat
  lamp : Bool
  buzzer : Bool
  strobes : List Strobe
deriving DecidableEq, Repr

/-- The model's own marks (log entries 5 and 9): the reactions that reports of the present event have called for
and that its end will make. All are clear between events. -/
structure Due where
  pass : Bool
  head : Bool
  strip : Bool
  transport : Bool
  link : Bool
  port : Bool
deriving DecidableEq, Repr

/-- No reaction is called for. -/
def Due.none : Due := ⟨false, false, false, false, false, false⟩

/-- The state of the controller. `free` counts the free values used (log entry 4); `pending` is the queue of the
commands that are waiting, first in, first out. -/
structure State where
  link : Link
  engine : Engine
  orders : OrderTable
  sched : Scheduler
  mags : Magazines
  expo : Exposure
  web : Web
  cutter : Cutter
  sorter : Sorter
  pricing : Pricing
  stop : StopControl
  lines : Lines
  due : Due
  free : Nat
  pending : List Instr
deriving DecidableEq, Repr

/-- The reasons a step could stop with a fault. The 7340 has none: every event has its effect by a rule, so this
type has no value, and no meaning can fault. Safe. -/
inductive Fault where
deriving DecidableEq, Repr

/-- The reasons a command could be refused. -/
inductive Refusal where
  /-- Raised by `exec`'s arm of a command that has no meaning yet; no arm raises it now. Safe. -/
  | notModelled (mnemonic : String)
deriving DecidableEq, Repr

/-! ## Power-on values -/

/-- A bin or the tray after a reset: STALE where its sensor reads occupied, FREE where it reads empty (R143). -/
def Bin.afterReset (b : Bin) : Bin :=
  ⟨if b.occupied then .stale else .free, none, none, 0, 0, b.occupied⟩

/-- The default annunciator patterns, by condition in priority sequence (R174). -/
def defaultPatterns : Vector Pattern 6 :=
  #v[⟨false, false, true, false, true⟩, ⟨false, true, false, false, true⟩, ⟨true, false, false, false, true⟩,
     ⟨true, true, false, false, false⟩, ⟨false, false, false, false, false⟩, ⟨true, false, false, true, false⟩]

/-- The default stations (R92). -/
def defaultStations : Stations := ⟨8000, 52000, 60000, 68000⟩

/-- Power-on values of the Link Interface with STARTED queued and begun (R177, R178, R180, R181, R188). -/
def Link.powerOn (started : Notice) : Link := ⟨none, [], [], [started], false, 0, .notice⟩

/-- Power-on values of the Order Table (R1, R25). -/
def OrderTable.powerOn : OrderTable := ⟨Vector.replicate 64 none, 0, 3⟩

/-- Power-on values of the Frame Scheduler (R45, R46, R60, R64). -/
def Scheduler.powerOn : Scheduler := ⟨[], [], [], 6, 6, []⟩

/-- Power-on values of the Magazine Controller (R28, R33, R34). -/
def Magazines.powerOn : Magazines := ⟨Vector.replicate 32 none, none, none, none, .idle, ⟨0, 0, 0⟩⟩

/-- Power-on values of the Exposure Sequencer (R88, R70). -/
def Exposure.powerOn : Exposure := ⟨[], 0, 0, none, 20, 2000, [], false, none⟩

/-- Power-on values of the Web Tracker (R104, R92). -/
def Web.powerOn : Web := ⟨[], defaultStations, .stopped, none, 0⟩

/-- Power-on values of the Cutter (R106, R111, R112, R114, R118). -/
def Cutter.powerOn : Cutter := ⟨none, none, 0, 96, 15, ⟨.none, 0, 0, 0, 0, .run, false⟩, 0⟩

/-- Power-on values of the Sorter, from the presence sensor levels it finds (R143, R127, R141). -/
def Sorter.powerOn (old : Sorter) : Sorter :=
  ⟨old.bins.map Bin.afterReset, old.tray.afterReset, Vector.replicate 64 none, [], none, 0, 4, 100, 400⟩

/-- Power-on values of the Pricing Unit (R162). -/
def Pricing.powerOn : Pricing :=
  ⟨Vector.replicate 4 (Vector.replicate 32 none), 0, Vector.replicate 3 0, Vector.replicate 16 none,
   Vector.replicate 4 0⟩

/-- Power-on values of Stop Control, with the jam sensor levels it finds (R171, R167, R174, R175). -/
def StopControl.powerOn (j1 j2 j3 : Bool) : StopControl :=
  ⟨[], none, j1, j2, j3, false, none, 90, defaultPatterns, false, [], 0⟩

/-- Every output released (R188). -/
def Lines.released : Lines := ⟨false, false, false, false, false, 0, false, false, []⟩

/-- Every block at its power-on values, with the reset cause given; the sensor levels, the waiting commands and the
free-value counter stay, and the RESET line is released (R188, R183). -/
def State.powerOn (cause : ResetCause) (s : State) : State :=
  { link := Link.powerOn (.started cause 1 0)
    engine := ⟨.setup, true, cause, false⟩
    orders := OrderTable.powerOn
    sched := Scheduler.powerOn
    mags := Magazines.powerOn
    expo := Exposure.powerOn
    web := Web.powerOn
    cutter := Cutter.powerOn
    sorter := s.sorter.powerOn
    pricing := Pricing.powerOn
    stop := StopControl.powerOn s.stop.j1 s.stop.j2 s.stop.j3
    lines := Lines.released
    due := Due.none
    free := s.free
    pending := s.pending }

/-- A bin or the tray of an empty sorter whose sensor reads empty (log entry 19). -/
def Bin.emptied : Bin := ⟨.free, none, none, 0, 0, false⟩

/-- The machine right after power-on, with every sensor clear and every bin empty (log entry 19), no command
waiting, and STARTED being sent. -/
def State.reset : State :=
  { link := Link.powerOn (.started .powerOn 1 0)
    engine := ⟨.setup, true, .powerOn, false⟩
    orders := OrderTable.powerOn
    sched := Scheduler.powerOn
    mags := Magazines.powerOn
    expo := Exposure.powerOn
    web := Web.powerOn
    cutter := Cutter.powerOn
    sorter := ⟨Vector.replicate 24 Bin.emptied, Bin.emptied, Vector.replicate 64 none, [], none, 0, 4, 100, 400⟩
    pricing := Pricing.powerOn
    stop := StopControl.powerOn false false false
    lines := Lines.released
    due := Due.none
    free := 0
    pending := [] }

end Sys2Proof.Machine
end

