-- ==== Sys2Proof/Machine/Layout.lean ====
section
/-! DEFINITION. The byte layouts of sections 10.1, 10.8 and 10.9: numbers, codes of named values, the frame with its
check, the frame receiver of both links, replies, notices, raster port records, and the paging of long replies
(R177, R179, R190, R191, R70). Log entries 12 and 13 gather what the layouts leave open. -/

namespace Sys2Proof.Machine

open Sys2Proof

/-! ## Numbers (section 10.9: most significant byte first, signed in two's complement) -/

/-- An unsigned number in one byte. -/
def b1 (n : Nat) : List Byte := [BitVec.ofNat 8 n]
/-- An unsigned number in two bytes. -/
def b2 (n : Nat) : List Byte := [BitVec.ofNat 8 (n / 256), BitVec.ofNat 8 n]
/-- An unsigned number in four bytes. -/
def b4 (n : Nat) : List Byte :=
  [BitVec.ofNat 8 (n / 16777216), BitVec.ofNat 8 (n / 65536), BitVec.ofNat 8 (n / 256), BitVec.ofNat 8 n]
/-- A signed number in one byte. -/
def i1 (z : Int) : List Byte := [BitVec.ofInt 8 z]
/-- A signed number in four bytes. -/
def i4 (z : Int) : List Byte := b4 (BitVec.ofInt 32 z).toNat
/-- A flag or presence byte. -/
def bf (b : Bool) : List Byte := if b then [1] else [0]
/-- A field that may be absent: a presence byte, then the field, or `size` zero bytes (R190). -/
def bo {α : Type} (size : Nat) (enc : α → List Byte) : Option α → List Byte
  | some x => bf true ++ enc x
  | none => bf false ++ List.replicate size 0
/-- A list that is not paged: its count in one byte, then its entries (R190). -/
def bl (entries : List (List Byte)) : List Byte := b1 entries.length ++ entries.flatten

/-- The number in two received bytes. -/
def be16 (h l : Byte) : Nat := h.toNat * 256 + l.toNat
/-- The number in four received bytes. -/
def be32 (a b c d : Byte) : Nat := a.toNat * 16777216 + b.toNat * 65536 + c.toNat * 256 + d.toNat
/-- A received flag or presence byte; any other value has no meaning (R190). -/
def flagOf (b : Byte) : Option Bool := if b = 0 then some false else if b = 1 then some true else none

/-! ## Codes of named values: the position in the list that the rule or field table gives (R190) -/

/-- PRINT, INDEX (sections 1.3, 2.1, 7.4; the raster records code them alike). -/
def PrintKind.code : PrintKind → Nat
  | .print => 0 | .index => 1

/-- The width in mm (sections 2.2, 10.9). -/
def Width.mm : Width → Nat
  | .w89 => 89 | .w102 => 102 | .w127 => 127 | .w152 => 152 | .w203 => 203 | .w254 => 254 | .w305 => 305

/-- The width of a number of mm, when it is one of the seven (section 2.2). -/
def widthOfMm (n : Nat) : Option Width :=
  [Width.w89, .w102, .w127, .w152, .w203, .w254, .w305].find? (fun w => w.mm == n)

/-- EXPRESS, STANDARD (section 10.9). -/
def OrderClass.code : OrderClass → Nat
  | .express => 0 | .standard => 1

/-- WAITING .. CANCELLED (section 1.2). -/
def OrderState.code : OrderState → Nat
  | .waiting => 0 | .printing => 1 | .ready => 2 | .attention => 3 | .cancelling => 4 | .cancelled => 5

/-- The void causes in the list of section 5.1. -/
def VoidCause.code : VoidCause → Nat
  | .cutterMiss => 0 | .rasterFault => 1 | .misroute => 2 | .jamVoid => 3 | .soakVoid => 4 | .haltVoid => 5
  | .cancelVoid => 6

/-- A, B (section 2.3). -/
def MagId.code : MagId → Nat
  | .a => 0 | .b => 1

/-- A, B, none (section 2.6). -/
def magOrNoneCode : Option MagId → Nat
  | some m => m.code | none => 2

/-- ABSENT, LOADED, ACTIVE, EMPTY (section 2.3); an absent record has code 0. -/
def MagState.code : MagState → Nat
  | .loaded => 1 | .active => 2 | .empty => 3

/-- SETUP, RUN, PAUSED, HALTED, RECOVERY (section 10.5). -/
def EngineState.code : EngineState → Nat
  | .setup => 0 | .run => 1 | .paused => 2 | .halted => 3 | .recovery => 4

/-- The return state of the recovery record: RUN, PAUSED (section 6.4). -/
def recoveryReturnCode : EngineState → Nat
  | .paused => 1 | .run | .setup | .halted | .recovery => 0

/-- POWER-ON, RESET LINE, RESTART (section 10.9). -/
def ResetCause.code : ResetCause → Nat
  | .powerOn => 0 | .resetLine => 1 | .restart => 2

/-- JAM, CUTTER, RASTER, MAGAZINE (section 9.1). -/
def HaltCause.code : HaltCause → Nat
  | .jam => 0 | .cutter => 1 | .raster => 2 | .magazine => 3

/-- J1, J2, J3, the sorter (R163). -/
def JamSource.code : JamSource → Nat
  | .j1 => 0 | .j2 => 1 | .j3 => 2 | .sorter => 3

/-- The conditions in the list of R172. -/
def Condition.code : Condition → Nat
  | .jam => 0 | .cutterHalt => 1 | .rasterMagazineHalt => 2 | .binWait => 3 | .expressReady => 4 | .paperLow => 5

/-- A condition by its place in the list of R172. -/
def Condition.ix (c : Condition) : Fin 6 :=
  match c with
  | .jam => 0 | .cutterHalt => 1 | .rasterMagazineHalt => 2 | .binWait => 3 | .expressReady => 4 | .paperLow => 5

/-- The six conditions, highest priority first (R172). -/
def Condition.all : List Condition := [.jam, .cutterHalt, .rasterMagazineHalt, .binWait, .expressReady, .paperLow]

/-- STOPPED, RUNNING, IDLE (section 5.4). -/
def Transport.code : Transport → Nat
  | .stopped => 0 | .running => 1 | .idle => 2

/-- FREE, OWNED, READY, STALE (section 7.2). -/
def BinState.code : BinState → Nat
  | .free => 0 | .owned => 1 | .ready => 2 | .stale => 3

/-- PREPARING, READY, EXPOSING, AWAITING DONE (section 4.4). -/
def CallState.code : CallState → Nat
  | .preparing => 0 | .ready => 1 | .exposing => 2 | .awaitingDone => 3

/-- PRINT, INDEX, PAPER END, MARK STRIP (section 5.1). -/
def SegKind.code : SegKind → Nat
  | .print => 0 | .index => 1 | .paperEnd => 2 | .markStrip => 3

/-- none, FULL, SHORT (section 6.4). -/
def RecoveryKind.code : RecoveryKind → Nat
  | .none => 0 | .full => 1 | .short => 2

/-- GRADUATED, BLOCK (section 8.1). -/
def PriceMode.code : PriceMode → Nat
  | .graduated => 0 | .block => 1

/-- The destination code: k for bin k, 25 for the tray, 26 for the reject chute (R128). -/
def dropCode : DropPoint → Nat
  | .bin b => b.val + 1 | .tray => 25 | .reject => 26

/-- The number of a bin in BIN DISTURBED, or 25 for the tray, for which R136 and R190 give no code: the model takes the
one that R128 gives the tray as a destination (log entry 40). -/
def placeCode : Container → Nat
  | .bin b => b.val + 1 | .tray => 25

/-- The result code of a refusal (section 10.2). -/
def RefusalCode.code : RefusalCode → Nat
  | .mode => 1 | .full => 2 | .duplicate => 3 | .unknown => 4 | .badProduct => 5 | .badValue => 6 | .inUse => 7
  | .bankInUse => 8 | .tooLarge => 9 | .complete => 10 | .webBusy => 11 | .condition => 12 | .noPaper => 13
  | .busy => 14 | .malformed => 15 | .frameError => 16

/-- A set of halt causes: bit k is the cause in position k of section 9.1. -/
def causesCode (cs : List HaltCause) : Nat :=
  (if cs.contains .jam then 1 else 0) + (if cs.contains .cutter then 2 else 0)
    + (if cs.contains .raster then 4 else 0) + (if cs.contains .magazine then 8 else 0)

/-- The attention reasons: bit 0 PRICE FAULT, bit 1 SHORT (section 1.2). -/
def reasonsCode (priceFault shortReason : Bool) : Nat :=
  (if priceFault then 1 else 0) + (if shortReason then 2 else 0)

/-! ## The frame and its check (section 10.1) -/

/-- One bit of the check: shift, and the polynomial 0x1021 where a 1 leaves the register. -/
def crcBit (c : BitVec 16) : BitVec 16 := if c.msb then (c <<< 1) ^^^ 0x1021#16 else c <<< 1

/-- One byte of the check, most significant bit first (R177). -/
def crcByte (c : BitVec 16) (b : Byte) : BitVec 16 :=
  crcBit (crcBit (crcBit (crcBit (crcBit (crcBit (crcBit (crcBit (c ^^^ ((b.setWidth 16) <<< 8)))))))))

/-- The CRC-16 of section 10.1: initial value 0xFFFF, no reflection, no final inversion. -/
def crc (bs : List Byte) : BitVec 16 := bs.foldl crcByte 0xFFFF#16

/-- The start byte. -/
def startByte : Byte := 0xA5#8

/-- The bytes over which the check is taken: length, kind, tag and body. -/
def frameCore (kind tag : Byte) (body : List Byte) : List Byte := b2 (2 + body.length) ++ kind :: tag :: body

/-- A frame as its bytes on the link. -/
def frameBytes (kind tag : Byte) (body : List Byte) : List Byte :=
  startByte :: frameCore kind tag body ++ b2 (crc (frameCore kind tag body)).toNat

/-- The bytes of an order link frame. -/
def Frame.encode (f : Frame) : List Byte := frameBytes f.kind f.tag f.body

/-- What a receiver finds when a frame in hand ends. -/
inductive RxEvent where
  | frame (f : Frame)
  | bad
deriving DecidableEq, Repr

/-- A whole frame in hand (the bytes after its start byte): its check is compared (R177). -/
def closeFrame (bs : List Byte) : RxEvent :=
  let core := bs.take (bs.length - 2)
  match core, bs.drop (bs.length - 2) with
  | _ :: _ :: kind :: tag :: body, [h, l] => if (crc core).toNat = be16 h l then .frame ⟨kind, tag, body⟩ else .bad
  | _, _ => .bad

/-- One byte taken by a frame receiver (R177). `none` is hunting. -/
def rxByte (rx : Option (List Byte)) (b : Byte) : Option (List Byte) × Option RxEvent :=
  match rx with
  | none => if b = startByte then (some [], none) else (none, none)
  | some got =>
    let bs := got ++ [b]
    match bs with
    | h :: l :: rest =>
      let len := be16 h l
      if len < 2 ∨ 258 < len then (none, some .bad)
      else if rest.length < len + 2 then (some bs, none)
      else (none, some (closeFrame bs))
    | _ => (some bs, none)

/-- The length field that the kind of a raster port record calls for: 2 and 2 bytes of body for READY, 2 and 3 for
DONE (R70, section 10.9). -/
def recordLength (kind : Byte) : Option Nat :=
  if kind = 0x11#8 then some 4 else if kind = 0x12#8 then some 5 else none

/-- One byte taken by the receiver of the raster port (R70): as R177 has it, and a length that is not that of the
kind is impossible, so that the receiver hunts again from the byte after the length. That byte is the kind, which is
no start byte (log entry 11). -/
def portByte (rx : Option (List Byte)) (b : Byte) : Option (List Byte) × Option RxEvent :=
  match rx with
  | some [h, l] => if (recordLength b).any (· != be16 h l) then (none, some .bad) else rxByte rx b
  | _ => rxByte rx b

/-! ## Replies, notices, raster records -/

/-- The body of a reply: the request's kind, the result code, the results (R179). -/
def Reply.body (r : Reply) : List Byte :=
  r.request :: b1 ((r.refusal.map RefusalCode.code).getD 0) ++ r.data

/-- A reply as its bytes on the link: kind 0x80, the tag of the request (R179). -/
def Reply.encode (r : Reply) : List Byte := frameBytes 0x80#8 r.tag r.body

/-- The kind of a notice (section 10.8). -/
def Notice.kind : Notice → Byte
  | .started .. => 0xC0#8
  | .orderReady .. => 0xC1#8
  | .orderAttention .. => 0xC2#8
  | .orderCollected .. => 0xC3#8
  | .orderCancelled .. => 0xC4#8
  | .binWait .. => 0xC5#8
  | .binDisturbed .. => 0xC6#8
  | .paperNeeded .. => 0xC7#8
  | .paperLow .. => 0xC8#8
  | .magazineEmpty .. => 0xC9#8
  | .changeoverDone .. => 0xCA#8
  | .halted .. => 0xCB#8
  | .cutterWarning .. => 0xCC#8
  | .cutterBlind .. => 0xCD#8
  | .cutterMarked .. => 0xCE#8
  | .recoveryDone .. => 0xCF#8
  | .recoveryFailed .. => 0xD0#8
  | .soakExpired .. => 0xD1#8
  | .noticesLost .. => 0xD2#8

/-- The body of a notice: the fields its rule names, in that sequence (R190). The return state of HALTED has its code in
the list of engine states, which is the model's choice (log entry 49). -/
def Notice.body : Notice → List Byte
  | .started cause nextSeq count => b1 cause.code ++ b4 nextSeq ++ b1 count
  | .orderReady order slot total disturbed => b2 order ++ b1 slot.val ++ b4 total ++ bf disturbed
  | .orderAttention order slot total disturbed priceFault shortReason =>
    b2 order ++ b1 slot.val ++ b4 total ++ bf disturbed ++ b1 (reasonsCode priceFault shortReason)
  | .orderCollected order => b2 order
  | .orderCancelled order => b2 order
  | .binWait order slot cls need bulk => b2 order ++ b1 slot.val ++ b1 cls.code ++ b2 need ++ bf bulk
  | .binDisturbed place order slot => b1 (placeCode place) ++ b2 order ++ b1 slot.val
  | .paperNeeded order slot line product width => b2 order ++ b1 slot.val ++ b1 line ++ b2 product ++ b2 width.mm
  | .paperLow mag width remaining => b1 mag.code ++ b2 width.mm ++ b4 remaining
  | .magazineEmpty mag width => b1 mag.code ++ b2 width.mm
  | .changeoverDone mag width remaining => b1 mag.code ++ b2 width.mm ++ b4 remaining
  | .halted cause causes ret jam =>
    b1 cause.code ++ b1 (causesCode causes) ++ b1 ret.code
      ++ bo 1 (fun j => b1 j.code) (jam.map Prod.fst) ++ bo 1 b1 (jam.map Prod.snd)
  | .cutterWarning count limit => b1 count ++ b4 limit
  | .cutterBlind count limit => b1 count ++ b4 limit
  | .cutterMarked count limit => b1 count ++ b4 limit
  | .recoveryDone count ret => b1 count ++ b1 (recoveryReturnCode ret)
  | .recoveryFailed count checked => b1 count ++ b2 checked
  | .soakExpired voided causes => b1 voided ++ b1 (causesCode causes)
  | .noticesLost dropped => b2 dropped

/-- A notice as its bytes on the link: tag 0 (R181). -/
def Notice.encode (n : Notice) : List Byte := frameBytes n.kind 0#8 n.body

/-- A raster port record as its bytes on the port (section 10.9). -/
def PortRecord.encode : PortRecord → List Byte
  | .frameCall tag image kind width length times =>
    frameBytes 0x01#8 0#8
      (b2 tag ++ b4 image ++ b1 kind.code ++ b2 width.mm ++ b2 length ++ b2 times.r ++ b2 times.g ++ b2 times.b)
  | .callCancel tag => frameBytes 0x02#8 0#8 (b2 tag)

/-- What a raster port frame that passed its check carries: a READY, a DONE, or nothing that can stand (R70). -/
inductive RasterRecord where
  | ready (tag : Nat)
  | done (tag : Nat) (status : DoneStatus)
  | discard
deriving DecidableEq, Repr

/-- The record of a checked raster port frame; the tag byte of the frame is not examined (R70, section 10.9). -/
def rasterRecord (f : Frame) : RasterRecord :=
  if f.kind = 0x11#8 then
    match f.body with
    | [h, l] => if be16 h l = 0 then .discard else .ready (be16 h l)
    | _ => .discard
  else if f.kind = 0x12#8 then
    match f.body with
    | [h, l, st] =>
      if be16 h l = 0 then .discard
      else if st = 0 then .done (be16 h l) .good
      else if st = 1 then .done (be16 h l) .fault
      else .discard
    | _ => .discard
  else .discard

/-! ## Paged replies (R191) -/

/-- A part of a long reply: bytes carried in full, a list of entries with its full length before its count (R191), or
a list with the count of R190 alone, as the reply to REPRICE ORDER carries it. -/
inductive Part where
  | full (bs : List Byte)
  | list (entries : List (List Byte))
  | counted (entries : List (List Byte))
deriving DecidableEq, Repr

/-- The bytes a part takes before any entry: a list has its full length and its count, or its count alone. -/
def Part.fixedSize : Part → Nat
  | .full bs => bs.length
  | .list _ => 2
  | .counted _ => 1

/-- Where a page stands while it is filled: the number of the next entry, the bytes still free, the entries still
allowed. A page that met an entry it cannot carry has none allowed. -/
structure PageAt where
  next : Nat
  room : Nat
  allowed : Nat
deriving DecidableEq, Repr

/-- The entries of one list that the page carries, from entry number `first` on, as long as whole entries fit. -/
def takeEntries (first : Nat) : PageAt → List (List Byte) → List (List Byte) × PageAt
  | p, [] => ([], p)
  | p, e :: es =>
    if p.next < first then takeEntries first { p with next := p.next + 1 } es
    else if e.length ≤ p.room ∧ 0 < p.allowed then
      let r := takeEntries first ⟨p.next + 1, p.room - e.length, p.allowed - 1⟩ es
      (e :: r.1, r.2)
    else takeEntries first ⟨p.next + 1, p.room, 0⟩ es

/-- The parts of a page, laid out. -/
def layParts (first : Nat) : PageAt → List Part → List Byte
  | _, [] => []
  | p, .full bs :: ps => bs ++ layParts first p ps
  | p, .list es :: ps =>
    let r := takeEntries first p es
    b1 es.length ++ b1 r.1.length ++ r.1.flatten ++ layParts first r.2 ps
  | p, .counted es :: ps =>
    let r := takeEntries first p es
    b1 r.1.length ++ r.1.flatten ++ layParts first r.2 ps

/-- The result bytes of a paged reply: every part in full, and the entries from `first` on, at most `most` of them,
as long as whole entries fit in the 254 bytes that the request kind and the result code leave (R191). -/
def page (first most : Nat) (parts : List Part) : List Byte :=
  layParts first ⟨0, 254 - (parts.map Part.fixedSize).sum, most⟩ parts

end Sys2Proof.Machine
end

