-- ==== Sys2Proof/Machine/Operands.lean ====
section
/-! DEFINITION. The operands of the requests: the body of each request of section 10.8, read from its bytes by the
layouts of section 10.9 and R190. A body that does not read is MALFORMED (R179). A code that the owning rule refuses
with BAD VALUE is kept as the number received, for that rule to refuse. -/

namespace Sys2Proof.Machine

open Sys2Proof

/-- A print line of an ADMIT ORDER body (section 10.9). -/
structure LineBody where
  product : Nat
  image : Nat
  corr : Rgb Int
  qty : Nat
deriving DecidableEq, Repr

/-- The body of ADMIT ORDER (section 10.9). -/
structure AdmitBody where
  number : Nat
  cls : Nat
  customer : Nat
  creditGiven : Nat
  credit : Nat
  indexGiven : Nat
  indexProduct : Nat
  lines : List LineBody
deriving DecidableEq, Repr

/-- The full size entry of SET SIZE (section 2.1). -/
structure SizeBody where
  product : Nat
  kind : Nat
  width : Nat
  length : Nat
  units : Nat
deriving DecidableEq, Repr

/-- The body of LOAD MAGAZINE (R31). -/
structure LoadBody where
  mag : Nat
  width : Nat
  remaining : Nat
  low : Option Nat
  base : Rgb Nat
  offset : Rgb Int
deriving DecidableEq, Repr

/-- The price entry of SET PRICE (section 8.1). -/
structure PriceBody where
  product : Nat
  mode : Nat
  tiers : List Tier
  tax : Nat
deriving DecidableEq, Repr

/-- The full promotion entry of SET PROMOTION (section 8.3; log entry 15). -/
structure PromoBody where
  active : Bool
  matchMode : Nat
  code1 : Nat
  mask1 : Nat
  code2 : Nat
  mask2 : Nat
  classes : BitVec 16
  kind : Nat
  p : Nat
  a : Nat
  n : Nat
  m : Nat
deriving DecidableEq, Repr

/-- The requests of section 10.8 with their operands. -/
inductive Request where
  | admitOrder (body : AdmitBody)
  | cancelOrder (number : Nat)
  | holdOrder (number : Nat)
  | releaseOrder (number : Nat)
  | acceptOrder (number : Nat)
  | queryOrder (number first : Nat)
  | quoteOrder (number first : Nat)
  | repriceOrder (number : Nat)
  | setSize (index : Nat) (entry : Option SizeBody)
  | loadMagazine (body : LoadBody)
  | unloadMagazine (mag : Nat)
  | setDrift (drift : Rgb Int)
  | setStations (entries : List (Nat × Nat))
  | setLimits (entries : List (Nat × Nat))
  | setFaultCount (value : Nat)
  | setPrice (bank index : Nat) (entry : PriceBody)
  | clearPrice (bank index : Nat)
  | setPromotion (index : Nat) (entry : Option PromoBody)
  | setTax (category rate : Nat)
  | selectBank (bank : Nat)
  | setPattern (condition rates : Nat) (buzzer : Bool)
  | silence
  | queryBins (first : Nat)
  | queryStatus (part param first : Nat)
  | enterSetup
  | enterRun
  | pause
  | continueRun
  | resume
  | cutterRestart
  | restart
deriving DecidableEq, Repr

/-- Exactly `n` print lines of 11 bytes (section 10.9). -/
def parseLines : Nat → List Byte → Option (List LineBody)
  | 0, [] => some []
  | n + 1, p1 :: p0 :: i3 :: i2 :: i1 :: i0 :: r :: g :: b :: q1 :: q0 :: rest =>
    (parseLines n rest).map
      (⟨be16 p1 p0, be32 i3 i2 i1 i0, ⟨r.toInt, g.toInt, b.toInt⟩, be16 q1 q0⟩ :: ·)
  | _, _ => none

/-- The body of ADMIT ORDER: 13 + 11 n bytes (section 10.9). -/
def parseAdmit : List Byte → Option Request
  | n1 :: n0 :: cls :: cust :: cg :: c3 :: c2 :: c1 :: c0 :: ig :: x1 :: x0 :: n :: rest =>
    (parseLines n.toNat rest).map fun ls =>
      .admitOrder ⟨be16 n1 n0, cls.toNat, cust.toNat, cg.toNat, be32 c3 c2 c1 c0, ig.toNat, be16 x1 x0, ls⟩
  | _ => none

/-- A body that is one order number. -/
def parseNumber (mk : Nat → Request) : List Byte → Option Request
  | [h, l] => some (mk (be16 h l))
  | _ => none

/-- A body that is an order number and the first entry wanted (R191). -/
def parseNumberFirst (mk : Nat → Nat → Request) : List Byte → Option Request
  | [h, l, f1, f0] => some (mk (be16 h l) (be16 f1 f0))
  | _ => none

/-- SET SIZE: index, presence byte, entry (R29, R190). With a presence byte of 0 the bytes of the entry are not looked
at, which is the model's choice (log entry 36). -/
def parseSetSize : List Byte → Option Request
  | [ix, present, p1, p0, kind, w1, w0, l1, l0, u1, u0] =>
    (flagOf present).map fun full =>
      .setSize ix.toNat
        (if full then some ⟨be16 p1 p0, kind.toNat, be16 w1 w0, be16 l1 l0, be16 u1 u0⟩ else none)
  | _ => none

/-- LOAD MAGAZINE: magazine, width, remaining, optional low threshold, base times, batch offsets (R31). The bytes of a
threshold that is absent are not looked at, which is the model's choice (log entry 36). -/
def parseLoad : List Byte → Option Request
  | [mag, w1, w0, r3, r2, r1, r0, lowGiven, t3, t2, t1, t0, br1, br0, bg1, bg0, bb1, bb0, odr, odg, odb] =>
    (flagOf lowGiven).map fun given =>
      .loadMagazine ⟨mag.toNat, be16 w1 w0, be32 r3 r2 r1 r0, if given then some (be32 t3 t2 t1 t0) else none,
        ⟨be16 br1 br0, be16 bg1 bg0, be16 bb1 bb0⟩, ⟨odr.toInt, odg.toInt, odb.toInt⟩⟩
  | _ => none

/-- SET DRIFT: three signed bytes (R34). -/
def parseDrift : List Byte → Option Request
  | [r, g, b] => some (.setDrift ⟨r.toInt, g.toInt, b.toInt⟩)
  | _ => none

/-- Exactly `n` entries of a name byte and a value of four bytes (SET STATIONS R92, SET LIMITS R182). -/
def parseNamed : Nat → List Byte → Option (List (Nat × Nat))
  | 0, [] => some []
  | n + 1, c :: v3 :: v2 :: v1 :: v0 :: rest => (parseNamed n rest).map ((c.toNat, be32 v3 v2 v1 v0) :: ·)
  | _, _ => none

/-- A body that is one list of named values. -/
def parseNamedList (mk : List (Nat × Nat) → Request) : List Byte → Option Request
  | n :: rest => (parseNamed n.toNat rest).map mk
  | [] => none

/-- Exactly `n` tiers and then the tax category, the end of a price entry (R145). -/
def parseTiers : Nat → List Byte → Option (List Tier × Nat)
  | 0, [tax] => some ([], tax.toNat)
  | n + 1, e1 :: e0 :: p3 :: p2 :: p1 :: p0 :: rest =>
    (parseTiers n rest).map fun r => (⟨be16 e1 e0, be32 p3 p2 p1 p0⟩ :: r.1, r.2)
  | _, _ => none

/-- SET PRICE: bank, index, entry (R145). -/
def parseSetPrice : List Byte → Option Request
  | bank :: ix :: p1 :: p0 :: mode :: n :: rest =>
    (parseTiers n.toNat rest).map fun r => .setPrice bank.toNat ix.toNat ⟨be16 p1 p0, mode.toNat, r.1, r.2⟩
  | _ => none

/-- SET PROMOTION: index, presence byte, entry; in the entry a presence byte stands before each field that the
match mode or the kind may leave out (R149, R190; log entry 15). -/
def parseSetPromotion : List Byte → Option Request
  | [ix, present, active, mode, c11, c10, m11, m10, hc2, c21, c20, hm2, m21, m20, k1, k0, kind, hp, p1, p0,
      ha, a3, a2, a1, a0, hn, n, hm, m] =>
    match flagOf present with
    | none => none
    | some false => some (.setPromotion ix.toNat none)
    | some true =>
      match flagOf active, flagOf hc2, flagOf hm2, flagOf hp, flagOf ha, flagOf hn, flagOf hm with
      | some act, some _, some _, some _, some _, some _, some _ =>
        some (.setPromotion ix.toNat (some
          ⟨act, mode.toNat, be16 c11 c10, be16 m11 m10, be16 c21 c20, be16 m21 m20, BitVec.ofNat 16 (be16 k1 k0),
            kind.toNat, be16 p1 p0, be32 a3 a2 a1 a0, n.toNat, m.toNat⟩))
      | _, _, _, _, _, _, _ => none
  | _ => none

/-- SET TAX: category, rate (R151). -/
def parseSetTax : List Byte → Option Request
  | [c, r1, r0] => some (.setTax c.toNat (be16 r1 r0))
  | _ => none

/-- SET PATTERN: condition, set of rates, buzzer flag (R174). -/
def parseSetPattern : List Byte → Option Request
  | [c, rates, bz] => (flagOf bz).map (.setPattern c.toNat rates.toNat ·)
  | _ => none

/-- QUERY STATUS: part, parameter, first entry (section 10.9). -/
def parseQueryStatus : List Byte → Option Request
  | [part, param, f1, f0] => some (.queryStatus part.toNat param.toNat (be16 f1 f0))
  | _ => none

/-- A body of one byte. -/
def parseByte (mk : Nat → Request) : List Byte → Option Request
  | [b] => some (mk b.toNat)
  | _ => none

/-- A body of two bytes. -/
def parseTwoBytes (mk : Nat → Nat → Request) : List Byte → Option Request
  | [a, b] => some (mk a.toNat b.toNat)
  | _ => none

/-- An empty body. -/
def parseEmpty (r : Request) : List Byte → Option Request
  | [] => some r
  | _ :: _ => none

/-- The request of a frame, by its kind (section 10.8); none is MALFORMED (R179). -/
def parseRequest (f : Frame) : Option Request :=
  match f.kind.toNat with
  | 0x01 => parseAdmit f.body
  | 0x02 => parseNumber .cancelOrder f.body
  | 0x03 => parseNumber .holdOrder f.body
  | 0x04 => parseNumber .releaseOrder f.body
  | 0x05 => parseNumber .acceptOrder f.body
  | 0x06 => parseNumberFirst .queryOrder f.body
  | 0x07 => parseNumberFirst .quoteOrder f.body
  | 0x08 => parseNumber .repriceOrder f.body
  | 0x10 => parseSetSize f.body
  | 0x11 => parseLoad f.body
  | 0x12 => parseByte .unloadMagazine f.body
  | 0x13 => parseDrift f.body
  | 0x14 => parseNamedList .setStations f.body
  | 0x15 => parseNamedList .setLimits f.body
  | 0x16 => parseByte .setFaultCount f.body
  | 0x18 => parseSetPrice f.body
  | 0x19 => parseTwoBytes .clearPrice f.body
  | 0x1A => parseSetPromotion f.body
  | 0x1B => parseSetTax f.body
  | 0x1C => parseByte .selectBank f.body
  | 0x1D => parseSetPattern f.body
  | 0x1E => parseEmpty .silence f.body
  | 0x20 => parseNumber .queryBins f.body
  | 0x21 => parseQueryStatus f.body
  | 0x28 => parseEmpty .enterSetup f.body
  | 0x29 => parseEmpty .enterRun f.body
  | 0x2A => parseEmpty .pause f.body
  | 0x2B => parseEmpty .continueRun f.body
  | 0x2C => parseEmpty .resume f.body
  | 0x2D => parseEmpty .cutterRestart f.body
  | 0x2E => parseEmpty .restart f.body
  | _ => none

end Sys2Proof.Machine
end

