-- ==== Sys2Proof/Machine/Ops.lean ====
section
/-! DEFINITION. The named operations that every block uses: replacing one block of the state, the marks for the
reactions of the end of an event, the reply list and the notice queue, the output lines, and the access to order
records, bins, magazines and segments. -/

namespace Sys2Proof.Machine

open Sys2Proof

/-! ## Replacing one block -/

/-- `s` with its field `link` replaced. -/
def State.setLink (s : State) (x : Link) : State := { s with link := x }
/-- `s` with its field `engine` replaced. -/
def State.setEngine (s : State) (x : Engine) : State := { s with engine := x }
/-- `s` with its field `orders` replaced. -/
def State.setOrders (s : State) (x : OrderTable) : State := { s with orders := x }
/-- `s` with its field `sched` replaced. -/
def State.setSched (s : State) (x : Scheduler) : State := { s with sched := x }
/-- `s` with its field `mags` replaced. -/
def State.setMags (s : State) (x : Magazines) : State := { s with mags := x }
/-- `s` with its field `expo` replaced. -/
def State.setExpo (s : State) (x : Exposure) : State := { s with expo := x }
/-- `s` with its field `web` replaced. -/
def State.setWeb (s : State) (x : Web) : State := { s with web := x }
/-- `s` with its field `cutter` replaced. -/
def State.setCutter (s : State) (x : Cutter) : State := { s with cutter := x }
/-- `s` with its field `sorter` replaced. -/
def State.setSorter (s : State) (x : Sorter) : State := { s with sorter := x }
/-- `s` with its field `pricing` replaced. -/
def State.setPricing (s : State) (x : Pricing) : State := { s with pricing := x }
/-- `s` with its field `stop` replaced. -/
def State.setStop (s : State) (x : StopControl) : State := { s with stop := x }
/-- `s` with its field `lines` replaced. -/
def State.setLines (s : State) (x : Lines) : State := { s with lines := x }
/-- `s` with its field `due` replaced. -/
def State.setDue (s : State) (x : Due) : State := { s with due := x }
/-- `s` with its field `free` replaced. -/
def State.setFree (s : State) (x : Nat) : State := { s with free := x }
/-- `s` with its field `pending` replaced. -/
def State.setPending (s : State) (x : List Instr) : State := { s with pending := x }

/-! ## Marks for the end of the event (log entry 5) -/

/-- A prompting event of R53 was reported. -/
def State.prompt (s : State) : State := s.setDue { s.due with pass := true }
/-- A condition of R76 or of R40 may have become true. -/
def State.headTest (s : State) : State := s.setDue { s.due with head := true }
/-- A condition of R116 may have become true. -/
def State.stripTest (s : State) : State := s.setDue { s.due with strip := true }
/-- The engine state or a keep-running condition of R94 may have changed. -/
def State.transportTest (s : State) : State := s.setDue { s.due with transport := true }

/-! ## Order link queues -/

/-- A reply placed in the reply list, or nothing when the list is full (R177, R178, R180). -/
def State.queueReply (s : State) (r : Reply) : State :=
  if s.link.replies.length < Config.replyCap then
    (s.setLink { s.link with replies := s.link.replies ++ [r] }).setDue { s.due with link := true }
  else s

/-- A notice raised: it joins the queue, or is dropped and counted when the queue is full (R181). -/
def State.notify (s : State) (n : Notice) : State :=
  if s.link.notices.length < Config.noticeCap then
    (s.setLink { s.link with notices := s.link.notices ++ [n] }).setDue { s.due with link := true }
  else s.setLink { s.link with lost := true, dropped := min (s.link.dropped + 1) Config.max16 }

/-- The FRAME ERROR reply, tag 0 (R177; log entry 10 for its request kind). -/
def frameErrorReply : Reply := ⟨0, 0, some .frameError, []⟩

/-- Whether a reply is the acceptance of RESTART, on which the reset waits (R187). -/
def Reply.isRestart (r : Reply) : Bool := r.request == 0x2E#8 && r.refusal.isNone

/-- Whether an accepted RESTART waits for its reply to be sent (R187). -/
def State.restartWaits (s : State) : Bool := s.link.replies.any Reply.isRestart

/-- The number the next admission would stamp, 0 when the sequence is exhausted (R188, R1). -/
def State.nextSeq (s : State) : Nat := if s.orders.seq < Config.maxSequence then s.orders.seq + 1 else 0

/-- The order link transmitter, when idle, begins the oldest reply, or else the oldest notice (R180; log entry 9). -/
def State.startLink (s : State) : State :=
  if s.due.link = true ∧ s.link.sending = .nothing then
    if s.link.replies ≠ [] then s.setLink { s.link with sending := .reply }
    else if s.link.notices ≠ [] then s.setLink { s.link with sending := .notice }
    else s
  else s

/-! ## Raster port queue (R70) -/

/-- A record raised for the raster port. A CALL CANCEL whose FRAME CALL has not been begun takes that FRAME CALL out
of the queue and is not queued itself (R70). -/
def State.sendPort (s : State) (r : PortRecord) : State :=
  (s.setExpo { s.expo with port := s.expo.port ++ [r] }).setDue { s.due with port := true }

/-- Whether a record is the FRAME CALL of this tag. -/
def PortRecord.isCallOf (tag : Nat) : PortRecord → Bool
  | .frameCall t _ _ _ _ _ => t == tag
  | .callCancel _ => false

/-- The records of the send queue whose sending has begun: the first while the port transmits. -/
def Exposure.begun (e : Exposure) : List PortRecord := if e.portBusy then e.port.take 1 else []

/-- The records of the send queue that wait unsent. -/
def Exposure.unsent (e : Exposure) : List PortRecord := if e.portBusy then e.port.drop 1 else e.port

/-- A CALL CANCEL raised (R70). -/
def State.sendCancel (s : State) (tag : Nat) : State :=
  if s.expo.unsent.any (PortRecord.isCallOf tag) then
    s.setExpo { s.expo with port := s.expo.begun ++ s.expo.unsent.filter (fun r => !r.isCallOf tag) }
  else s.sendPort (.callCancel tag)

/-- The port's transmitter, when idle, begins the next waiting record (R70; log entry 9). -/
def State.startPort (s : State) : State :=
  if s.due.port = true ∧ s.expo.portBusy = false ∧ s.expo.port ≠ [] then s.setExpo { s.expo with portBusy := true }
  else s

/-! ## Output lines -/

/-- A momentary output (log entry 17). -/
def State.strobe (s : State) (x : Strobe) : State := s.setLines { s.lines with strobes := s.lines.strobes ++ [x] }

/-- The expose gate (R72). -/
def State.gate (s : State) (on : Bool) : State := s.setLines { s.lines with exposeGate := on }

/-- The sort drive (R128, R130 to R132). -/
def State.sortDrive (s : State) (on : Bool) : State := s.setLines { s.lines with sortDrive := on }

/-- The threading drive of a magazine (R40 to R43). -/
def State.threadDrive (s : State) (m : MagId) (on : Bool) : State :=
  match m with
  | .a => s.setLines { s.lines with threadA := on }
  | .b => s.setLines { s.lines with threadB := on }

/-! ## Order records -/

/-- The record in a slot. -/
def State.order (s : State) (slot : Slot) : Option Order := s.orders.recs[slot]

/-- A record written into a slot, or the slot made free. -/
def State.putOrder (s : State) (slot : Slot) (o : Option Order) : State :=
  s.setOrders { s.orders with recs := s.orders.recs.set slot o }

/-- The slots in ascending sequence. -/
def slots : List Slot := List.finRange 64

/-- The occupied record of an order number, with its slot (R21). -/
def State.findOrder (s : State) (number : Nat) : Option (Slot × Order) :=
  slots.findSome? fun i => (s.order i).bind fun o => if o.number = number then some (i, o) else none

/-- The line with this line number, counted from 1 (section 1.3). -/
def Order.line (o : Order) : Nat → Option Line
  | 0 => none
  | n + 1 => o.lines[n]?

/-- The order with one line replaced. -/
def Order.setLine (o : Order) (n : Nat) (l : Line) : Order := { o with lines := o.lines.set (n - 1) l }

/-- The owed copies of all lines (R26). -/
def Order.owedTotal (o : Order) : Nat := (o.lines.map Line.owed).sum

/-- The record of a slot rewritten where it is occupied. -/
def State.modifyOrder (s : State) (slot : Slot) (f : Order → Order) : State :=
  match s.order slot with
  | none => s
  | some o => s.putOrder slot (some (f o))

/-! ## Bins and magazines -/

/-- The bins in ascending bin number. -/
def binNumbers : List BinIx := List.finRange 24

/-- A bin record replaced. -/
def State.putBin (s : State) (b : BinIx) (x : Bin) : State :=
  s.setSorter { s.sorter with bins := s.sorter.bins.set b x }

/-- The record of a bin or of the tray. -/
def State.place (s : State) : Container → Bin
  | .bin b => s.sorter.bins[b]
  | .tray => s.sorter.tray

/-- The record of a bin or of the tray replaced. -/
def State.putPlace (s : State) (p : Container) (x : Bin) : State :=
  match p with
  | .bin b => s.putBin b x
  | .tray => s.setSorter { s.sorter with tray := x }

/-- The place of a drop point; the reject chute is none. -/
def dropPlace : DropPoint → Option Container
  | .bin b => some (.bin b)
  | .tray => some .tray
  | .reject => none

/-- The bins in ascending number, then the tray. -/
def places : List Container := binNumbers.map Container.bin ++ [.tray]

/-- A magazine's record; none is ABSENT. -/
def Magazines.get (g : Magazines) : MagId → Option MagRec
  | .a => g.magA
  | .b => g.magB

/-- A magazine's record replaced. -/
def Magazines.put (g : Magazines) (m : MagId) (r : Option MagRec) : Magazines :=
  match m with
  | .a => { g with magA := r }
  | .b => { g with magB := r }

/-- A magazine's record replaced. -/
def State.putMag (s : State) (m : MagId) (r : Option MagRec) : State := s.setMags (s.mags.put m r)

/-- The size entry that holds a product code (R28). -/
def State.lookupSize (s : State) (product : Nat) : Option SizeEntry :=
  s.mags.sizes.toList.findSome? fun e => e.bind fun z => if z.product = product then some z else none

/-! ## Segments -/

/-- The trail position of a segment (section 5.1). -/
def Segment.trail (g : Segment) : Int := g.lead - g.length

/-- Whether a segment is a LIVE PRINT or INDEX segment, with the copy it stands for (section 5.1). -/
def Segment.liveCopy (g : Segment) : Option Copy :=
  match g.kind, g.void with
  | .print, none => g.copy
  | .index, none => g.copy
  | _, _ => none

/-- Whether a segment is of kind PRINT or INDEX. -/
def Segment.isFrame (g : Segment) : Bool := g.kind == .print || g.kind == .index

/-- The segment kind of a print or an index print. -/
def segKindOf : PrintKind → SegKind
  | .print => .print
  | .index => .index

/-- The item kind of a segment. -/
def itemKindOf : SegKind → PrintKind
  | .index => .index
  | .print | .paperEnd | .markStrip => .print

/-- The youngest segment. -/
def Web.youngest (w : Web) : Option Segment := w.queue.getLast?

/-- The segment of this name on the web queue. -/
def State.segment (s : State) (sid : Nat) : Option Segment := s.web.queue.find? (fun g => g.sid == sid)

end Sys2Proof.Machine
end

