-- ==== Sys2Proof/Machine/Flags.lean ====
section
/-! DEFINITION. The conditions and figures that the rules compute from the state: registration mode, paper test,
entry conditions, keep-running conditions, overlap, bin counts, annunciator conditions and waves, exposure times. -/

namespace Sys2Proof.Machine

open Sys2Proof

/-! ## Cutter and web -/

/-- The registration mode is BLIND exactly when the fault count exceeds 127 (R112). -/
def Cutter.blind (c : Cutter) : Bool := decide (127 < c.count)

/-- The gap a frame would be called with now (R49, R69). -/
def State.frameGap (s : State) : Nat := if s.cutter.blind then s.expo.gap + Config.blindGap else s.expo.gap

/-- The geometry is consistent (R92). -/
def Stations.consistent (g : Stations) : Bool :=
  decide (g.pIn < g.pOut ∧ g.pOut < g.dry ∧ g.dry < g.cut ∧ g.cut ≤ 150000)

/-- The entry conditions of R90: fewer than 192 segments, and none or the youngest trail at or beyond the
exposure line. -/
def Web.canEnter (w : Web) : Bool :=
  decide (w.queue.length < Config.webCap) && (w.youngest.all fun g => decide (0 ≤ g.trail))

/-- The youngest trail has run its gap, or the queue is empty (R76). -/
def Web.gapRun (w : Web) : Bool := w.youngest.all fun g => decide ((g.gap : Int) ≤ g.trail)

/-- A segment overlaps the interval [a, b], ends included (R99). -/
def Segment.overlaps (g : Segment) (a b : Int) : Bool := decide (a ≤ g.lead ∧ g.trail ≤ b)

/-- A LIVE PRINT or INDEX segment overlaps the processor section (R168, R99). -/
def Web.soakTouched (w : Web) : Bool :=
  w.queue.any fun g => g.liveCopy.isSome && g.overlaps w.stations.pIn w.stations.pOut

/-- The void window of a jam sensor (R166). -/
def Stations.window (g : Stations) : JamSensor → Int × Int
  | .j1 => ((g.pOut : Int) - 3000, (g.pOut : Int) + 1000)
  | .j2 => ((g.dry : Int) - 3000, (g.dry : Int) + 1000)
  | .j3 => ((g.cut : Int) - 5000, (g.cut : Int) - 1000)

/-- Any jam sensor input is asserted (R170, R184). -/
def StopControl.anyJam (c : StopControl) : Bool := c.j1 || c.j2 || c.j3

/-- The level of a jam sensor input. -/
def StopControl.level (c : StopControl) : JamSensor → Bool
  | .j1 => c.j1
  | .j2 => c.j2
  | .j3 => c.j3

/-- The jam sensor inputs with one level changed. -/
def StopControl.setLevel (c : StopControl) (j : JamSensor) (on : Bool) : StopControl :=
  match j with
  | .j1 => { c with j1 := on }
  | .j2 => { c with j2 := on }
  | .j3 => { c with j3 := on }

/-! ## Paper -/

/-- The record of the magazine the selector names, when it is ACTIVE (R30). -/
def Magazines.activeRec (g : Magazines) : Option MagRec :=
  (g.selector.bind g.get).bind fun r => if r.state = .active then some r else none

/-- The active width (R30). -/
def Magazines.activeWidth (g : Magazines) : Option Width := g.activeRec.map MagRec.width

/-- A magazine's width when it is LOADED or ACTIVE (R30). -/
def loadedWidth (r : Option MagRec) : Option Width :=
  r.bind fun r => if r.state = .empty then none else some r.width

/-- The set of loaded widths (R30). -/
def Magazines.loadedWidths (g : Magazines) : List Width :=
  [loadedWidth g.magA, loadedWidth g.magB].filterMap id

/-- Some magazine is LOADED (R170). -/
def Magazines.someLoaded (g : Magazines) : Bool :=
  [g.magA, g.magB].any fun r => (r.map MagRec.state) == some .loaded

/-- Some magazine is LOADED or ACTIVE (R184). -/
def Magazines.hasPaper (g : Magazines) : Bool := !g.loadedWidths.isEmpty

/-- The magazine is LOADED with this width and not named by the selector (R39, R50). -/
def Magazines.standby (g : Magazines) (w : Width) (m : MagId) : Bool :=
  g.selector != some m && (g.get m).any fun r => r.state == .loaded && r.width == w

/-- The target a changeover to a width would have: A when both qualify (R39). -/
def Magazines.target (g : Magazines) (w : Width) : Option MagId := [MagId.a, .b].find? (g.standby w)

/-- The paper test for a frame of a width, length and gap (R37). -/
def Magazines.paperTest (g : Magazines) (w : Width) (length gap : Nat) : Bool :=
  (g.activeRec.any fun r => r.width == w && decide (length + gap ≤ r.remaining)) && g.change == .idle

/-- A magazine's roll keeps PAPER LOW active: LOADED or ACTIVE with low reported set (R172). -/
def lowShown (r : Option MagRec) : Bool := r.any fun r => r.state != .empty && r.lowReported

/-! ## Exposure -/

/-- The head is clear: no call in the pipeline and no mark still to be written (R87, R40). -/
def Exposure.headClear (e : Exposure) : Bool := e.calls.isEmpty && e.trailing.isNone

/-- A call that has not begun exposing (section 4.4). -/
def Call.waiting (c : Call) : Bool := c.state == .preparing || c.state == .ready

/-- The calls that stand for copies of this line (R48). -/
def Exposure.callsFor (e : Exposure) (slot : Slot) (line : Nat) : Nat :=
  (e.calls.filter fun c => c.waiting && c.slot == slot && c.line == line).length

/-- The density factors F(−50) .. F(50) (R67). -/
def factorTable : List Nat :=
  [20724, 21207, 21701, 22206, 22724, 23253, 23795, 24349, 24916, 25496]
  ++ [26090, 26698, 27320, 27956, 28608, 29274, 29956, 30653, 31368, 32098]
  ++ [32846, 33611, 34394, 35195, 36015, 36854, 37712, 38590, 39489, 40409]
  ++ [41350, 42314, 43299, 44308, 45340, 46396, 47477, 48583, 49714, 50872]
  ++ [52057, 53270, 54510, 55780, 57079, 58409, 59770, 61162, 62586, 64044]
  ++ [65536, 67063, 68625, 70223, 71859, 73533, 75245, 76998, 78792, 80627]
  ++ [82505, 84427, 86393, 88406, 90465, 92572, 94728, 96935, 99193, 101503]
  ++ [103868, 106287, 108763, 111296, 113889, 116541, 119256, 122034, 124876, 127785]
  ++ [130762, 133807, 136924, 140113, 143377, 146717, 150134, 153631, 157210, 160872]
  ++ [164619, 168453, 172377, 176392, 180501, 184706, 189008, 193410, 197916, 202526]
  ++ [207243]

/-- F(s) for a density sum in −50..50 (R67). -/
def factor (s : Int) : Nat := factorTable.getD (s + 50).toNat 0

/-- A density value held within −50..50 (R6, R66). -/
def clampDensity (z : Int) : Int := max (-50) (min 50 z)

/-- The exposure time before its clamp (R68). -/
def rawTime (base : Nat) (s : Int) : Nat := (base * factor s + 32768) / 65536

/-- The exposure time of one channel, and whether its density sum or its time was clamped (R66, R68). -/
def exposureTime (base : Nat) (sum : Int) : Nat × Bool :=
  let t := rawTime base (clampDensity sum)
  (max 20 (min 5000 t), decide (sum < -50 ∨ 50 < sum ∨ t < 20 ∨ 5000 < t))

/-- The exposure times of a call, and whether any clamp applied (R66 to R68). -/
def exposureTimes (m : MagRec) (drift corr : Rgb Int) : Rgb Nat × Bool :=
  let r := exposureTime m.base.r (corr.r + m.offset.r + drift.r)
  let g := exposureTime m.base.g (corr.g + m.offset.g + drift.g)
  let b := exposureTime m.base.b (corr.b + m.offset.b + drift.b)
  (⟨r.1, g.1, b.1⟩, r.2 || g.2 || b.2)

/-! ## Bins -/

/-- The FREE bins in ascending bin number (R124, R126). -/
def State.freeBins (s : State) : List BinIx := binNumbers.filter fun b => s.sorter.bins[b].state == .free

/-- A bin or the tray is owned by this slot: OWNED or READY with it as owner (R123). -/
def Bin.ownedBy (b : Bin) (slot : Slot) : Bool := (b.state == .owned || b.state == .ready) && b.owner == some slot

/-- The class of the order that owns a bin. -/
def State.ownerClass (s : State) (b : Bin) : Option OrderClass :=
  if b.state = .owned ∨ b.state = .ready then (b.owner.bind s.order).map Order.cls else none

/-- The number of bins owned by standard orders (R125, R127). -/
def State.standardOwned (s : State) : Nat :=
  (binNumbers.filter fun b => s.ownerClass s.sorter.bins[b] == some .standard).length

/-- The grant test for a WAITING order, from its need record (R124). -/
def State.grantTest (s : State) (slot : Slot) (cls : OrderClass) : Bool :=
  match s.sorter.needs[slot] with
  | none => false
  | some n =>
    if n.bulk then s.sorter.tray.state == .free
    else
      match cls with
      | .express => decide (n.bins ≤ s.freeBins.length)
      | .standard => decide (n.bins + s.sorter.expressReserve ≤ s.freeBins.length)

/-! ## Engine and transport -/

/-- At least one keep-running condition of R94 holds. -/
def State.keepRunning (s : State) : Bool :=
  !s.web.queue.isEmpty || s.expo.calls.any (fun c => c.state == .exposing || c.state == .ready)
    || (match s.mags.change with | .threading _ _ => true | .idle => false | .pending _ _ => false)
    || s.web.purge.isSome

/-- The transport state that the engine state and the keep-running conditions call for (R94). -/
def State.transportFor (s : State) : Transport :=
  match s.engine.state with
  | .setup | .halted => .stopped
  | .recovery => .running
  | .run | .paused => if s.keepRunning then .running else .idle

/-! ## Annunciator -/

/-- A condition of the annunciator is active (R172). -/
def State.conditionActive (s : State) : Condition → Bool
  | .jam => s.stop.causes.contains .jam
  | .cutterHalt => s.stop.causes.contains .cutter
  | .rasterMagazineHalt => s.stop.causes.contains .raster || s.stop.causes.contains .magazine
  | .binWait => !s.sched.binWait.isEmpty
  | .expressReady => s.orders.recs.toList.any fun o => o.any fun o => o.cls == .express && o.state == .ready
  | .paperLow => lowShown s.mags.magA || lowShown s.mags.magB

/-- The half period of a rate of r Hz in sixteenths of a second (R173). -/
def halfPeriod (hz : Nat) : Nat := 8 / hz

/-- A wave of r Hz is high at this phase, counted from the last restart (R173). -/
def waveHigh (hz phase : Nat) : Bool := phase / halfPeriod hz % 2 == 0

/-- Every wave of the pattern's set is high (R173). -/
def Pattern.allHigh (p : Pattern) (phase : Nat) : Bool :=
  (!p.hz1 || waveHigh 1 phase) && (!p.hz2 || waveHigh 2 phase) && (!p.hz4 || waveHigh 4 phase)
    && (!p.hz8 || waveHigh 8 phase)

/-- The time from one edge of the set's waves to the next, in sixteenths of a second: the half period of the
fastest rate, or none for an empty set (R173). -/
def Pattern.edgeStep (p : Pattern) : Option Nat :=
  if p.hz8 then some 1 else if p.hz4 then some 2 else if p.hz2 then some 4 else if p.hz1 then some 8 else none

/-- The driving condition: the highest active one (R172). -/
def StopControl.driving (c : StopControl) : Option Condition := c.active.head?

/-- The lamp is on: a condition drives, and every wave of its set is high (R173). -/
def StopControl.lampOn (c : StopControl) : Bool := c.driving.any fun d => c.patterns[d.ix].allHigh c.phase

/-- The buzzer sounds: the lamp is on, the driving condition's buzzer flag is set, the mute flag clear (R173). -/
def StopControl.buzzerOn (c : StopControl) : Bool :=
  c.lampOn && (c.driving.any fun d => c.patterns[d.ix].buzzer) && !c.mute

/-- The lamp and buzzer outputs set from Stop Control (R173). -/
def State.driveLamp (s : State) : State :=
  s.setLines { s.lines with lamp := s.stop.lampOn, buzzer := s.stop.buzzerOn }

/-- Stop Control after the conditions now active have been reported to it: a condition that became active clears
the mute flag (R175), a change of the driving condition restarts the envelopes (R172). -/
def StopControl.report (c : StopControl) (now : List Condition) : StopControl :=
  { c with
    active := now
    mute := if now.any (fun x => !c.active.contains x) then false else c.mute
    phase := if now.head? = c.active.head? then c.phase else 0 }

/-- The owners of the conditions report to Stop Control, which sets lamp and buzzer (R172, R173, R175). -/
def State.annunciate (s : State) : State :=
  (s.setStop (s.stop.report (Condition.all.filter s.conditionActive))).driveLamp

end Sys2Proof.Machine
end

