-- ==== Sys2Proof/Machine/PriceOps.lean ====
section
/-! DEFINITION. The price computation shared by commit, QUOTE ORDER and REPRICE ORDER (chapter 8, R144 to R157).
Every amount is a whole number of minor units, 0 or more. -/

namespace Sys2Proof.Machine

open Sys2Proof

/-- The entry of a bank that holds a code. -/
def bankLookup (bank : Vector (Option PriceEntry) 32) (product : Nat) : Option PriceEntry :=
  bank.toList.findSome? fun e => e.bind fun x => if x.product = product then some x else none

/-- The lookup for a line: the common bank first, then the latched bank (R144). -/
def Pricing.lookup (p : Pricing) (latched : SwBank) (product : Nat) : Option PriceEntry :=
  (bankLookup p.book[(0 : BankIx)] product).orElse fun _ => bankLookup p.book[latched.succ] product

/-- A product code matches a code and mask pair: equal wherever the mask has a 0 (R150). -/
def CodeMask.matches (c : CodeMask) (product : Nat) : Bool :=
  ((BitVec.ofNat 12 product) ^^^ c.code) &&& ~~~c.mask == 0#12

/-- A promotion qualifies for a line: active, a pair matches, the class set holds the customer class (R150). -/
def Promotion.qualifies (p : Promotion) (product customer : Nat) : Bool :=
  p.active && (p.first.matches product || p.second.any (·.matches product)) && p.classes.getLsbD customer

/-- The promotion that applies to a line: the qualifying one with the lowest index (R150). -/
def Pricing.promotionFor (p : Pricing) (product customer : Nat) : Option (Fin 16) :=
  (List.finRange 16).find? fun i => p.promotions[i].any (·.qualifies product customer)

/-- GRADUATED: each count 1..q at the price of its tier, tier by tier above `below` (R153). -/
def graduated (below : Nat) : List Tier → Nat → Nat
  | [], _ => 0
  | [t], q => (q - below) * t.price
  | t :: ts, q => (min q t.ending - below) * t.price + graduated t.ending ts q

/-- The price of the first tier whose ending quantity is at least k, or of the last tier (R153). -/
def tierPrice : List Tier → Nat → Nat
  | [], _ => 0
  | [t], _ => t.price
  | t :: ts, k => if k ≤ t.ending then t.price else tierPrice ts k

/-- The gross of a priced line (R153). -/
def PriceEntry.gross (e : PriceEntry) (q : Nat) : Nat :=
  match e.mode with
  | .graduated => graduated 0 e.tiers q
  | .block => q * tierPrice e.tiers q

/-- The discount of a kind of promotion on a gross (R154). -/
def Discount.amount (d : Discount) (gross q : Nat) : Nat :=
  match d with
  | .percent p => (gross * p + 5000) / 10000
  | .perPrint a => min (q * a) gross
  | .bundle n m => if q = 0 then 0 else gross * (q / n * (n - m)) / q

/-- The figures of one line (R152, R159). `entry` is none for an unpriced line. -/
structure LineFigures where
  q : Nat
  entry : Option PriceEntry
  gross : Nat
  promotion : Option (Fin 16)
  discount : Nat
  net : Nat
deriving DecidableEq, Repr

/-- The figures of a line priced with quantity q (R152 to R154). An unpriced line is reported with no promotion, which is
the model's choice (log entry 47). -/
def Pricing.lineFigures (p : Pricing) (latched : SwBank) (customer product q : Nat) : LineFigures :=
  match p.lookup latched product with
  | none => ⟨q, none, 0, none, 0, 0⟩
  | some e =>
    let gross := e.gross q
    let promo := p.promotionFor product customer
    let discount := ((promo.bind fun i => p.promotions[i]).map fun x => x.kind.amount gross q).getD 0
    ⟨q, some e, gross, promo, discount, gross - discount⟩

/-- A saturating sum (R156). -/
def satSum (xs : List Nat) : Nat := min xs.sum Config.maxAmount

/-- A saturating sum took MAX_AMOUNT in place of a larger one (R156). -/
def overSum (xs : List Nat) : Bool := decide (Config.maxAmount < xs.sum)

/-- The figures of an order (R155, R156). -/
structure OrderFigures where
  lines : List LineFigures
  catNet : List Nat
  catTax : List Nat
  gross : Nat
  discount : Nat
  net : Nat
  tax : Nat
  creditApplied : Nat
  total : Nat
  ov : Bool
  floored : Bool
  unpriced : Bool
deriving DecidableEq, Repr

/-- The nets of the priced lines of a tax category (R155). -/
def categoryNets (ls : List LineFigures) (c : Fin 4) : List Nat :=
  ls.filterMap fun l => l.entry.bind fun e => if e.tax = c then some l.net else none

/-- The four tax categories. -/
def categories : List (Fin 4) := List.finRange 4

/-- The tax of a category net at a rate (R155). -/
def categoryTax (net rate : Nat) : Nat := (net * rate + 5000) / 10000

/-- The sums of R155 over the lines' figures, with a credit. -/
def Pricing.sumOrder (p : Pricing) (credit : Nat) (ls : List LineFigures) : OrderFigures :=
  let catNet := categories.map fun c => satSum (categoryNets ls c)
  let catTax := categories.map fun c => categoryTax (satSum (categoryNets ls c)) p.tax[c]
  let grosses := ls.map LineFigures.gross
  let discounts := ls.map LineFigures.discount
  let net := satSum catNet
  let tax := satSum catTax
  let due := satSum [net, tax]
  { lines := ls
    catNet := catNet
    catTax := catTax
    gross := satSum grosses
    discount := satSum discounts
    net := net
    tax := tax
    creditApplied := min credit due
    total := due - credit
    ov := categories.any (fun c => overSum (categoryNets ls c)) || overSum grosses || overSum discounts
      || overSum catNet || overSum catTax || overSum [net, tax]
    floored := decide (due < credit)
    unpriced := ls.any fun l => l.entry.isNone }

/-- The computation for an order, with the quantity priced of each line given by `qty` (R152). -/
def Pricing.compute (p : Pricing) (o : Order) (qty : Line → Nat) : OrderFigures :=
  p.sumOrder (o.credit.getD 0) (o.lines.map fun l => p.lineFigures o.bank o.customer l.product (qty l))

/-- The tally a commit or a reprice writes (R157, R160). -/
def OrderFigures.tally (f : OrderFigures) : Tally :=
  ⟨f.gross, f.discount, f.net, f.tax, f.creditApplied, f.total, f.ov, f.floored, f.unpriced⟩

/-- PRICE FAULT is raised when SO or UNPRICED is set (R157). -/
def Tally.fault (t : Tally) : Bool := t.so || t.unpriced

/-- The tally of a commit or reprice: each line at its delivered count (R157, R160). -/
def Pricing.commitTally (p : Pricing) (o : Order) : Tally := (p.compute o Line.delivered).tally

end Sys2Proof.Machine
end

