-- ==== Sys2Proof/Machine/OrderOps.lean ====
section
/-! DEFINITION. The shared operations on order records: list membership, freeing of bins and records, completion,
count moves and the in-flight count (chapters 1 and 3, and sections 7.6 and 8.7). A report reaches the Order Table in
the event that makes it. -/

namespace Sys2Proof.Machine

open Sys2Proof

/-! ## Lists of the Frame Scheduler -/

/-- The order leaves its class list (R45); the lists change, so a pass is prompted (R53). -/
def State.leaveClassList (s : State) (slot : Slot) : State :=
  (s.setSched { s.sched with
    express := s.sched.express.filter (· != slot), standard := s.sched.standard.filter (· != slot) }).prompt

/-- The order joins the end of its class list (R45). -/
def State.joinClassList (s : State) (slot : Slot) : OrderClass → State
  | .express => s.setSched { s.sched with express := s.sched.express ++ [slot] }
  | .standard => s.setSched { s.sched with standard := s.sched.standard ++ [slot] }

/-- The order is reported as owing: it joins the end of the remake list unless it is there (R26, R46). -/
def State.joinRemake (s : State) (slot : Slot) : State :=
  if s.sched.remake.contains slot then s
  else (s.setSched { s.sched with remake := s.sched.remake ++ [slot] }).prompt

/-- The order is reported as settled, or removed by a cancel: it leaves the remake list (R26, R46). -/
def State.leaveRemake (s : State) (slot : Slot) : State :=
  s.setSched { s.sched with remake := s.sched.remake.filter (· != slot) }

/-- The order leaves the bin-wait set, and Stop Control hears of it (R65). -/
def State.leaveBinWait (s : State) (slot : Slot) : State :=
  if s.sched.binWait.contains slot then
    (s.setSched { s.sched with binWait := s.sched.binWait.filter (· != slot) }).annunciate
  else s

/-- The order joins the bin-wait set; when it was not in it, BIN WAIT is queued (R64). -/
def State.joinBinWait (s : State) (slot : Slot) (o : Order) : State :=
  if s.sched.binWait.contains slot then s
  else
    let need := s.sorter.needs[slot].getD ⟨0, o.bulk⟩
    ((s.setSched { s.sched with binWait := s.sched.binWait ++ [slot] }).notify
      (.binWait o.number slot o.cls need.bins need.bulk)).annunciate

/-! ## Freeing -/

/-- The record is freed: the slot, its need record and its place in the latch count go (R1, R122, R147), and the
EXPRESS READY condition is reported again (R172). -/
def State.freeRecord (s : State) (slot : Slot) (o : Order) : State :=
  let s := s.putOrder slot none
  let s := s.setSorter { s.sorter with needs := s.sorter.needs.set slot none }
  let s := s.setPricing { s.pricing with latch := s.pricing.latch.set o.bank (s.pricing.latch[o.bank] - 1) }
  s.annunciate

/-- The notice with which a collected record is freed: ORDER COLLECTED from READY, ORDER CANCELLED from CANCELLED
(R14). -/
def Order.freedNotice (o : Order) : Notice :=
  if o.state = .ready then .orderCollected o.number else .orderCancelled o.number

/-- The order is READY or CANCELLED, nothing of it is left in the sorter or on the machine (R11, R14, R15). -/
def Order.collected (o : Order) : Bool :=
  (o.state == .ready || o.state == .cancelled) && o.bins.isEmpty && !o.trayHeld && o.inFlight == 0

/-- The collected test: a collected record is freed and its notice queued (R11, R14, R15). -/
def State.tryFree (s : State) (slot : Slot) : State :=
  match s.order slot with
  | none => s
  | some o => if o.collected then (s.freeRecord slot o).notify o.freedNotice else s

/-- The Sorter's report that a bin or the tray of an order has been freed (R3). -/
def Order.placeFreed (o : Order) (p : Container) : Order :=
  match p with
  | .bin b => { o with bins := o.bins.filter fun e => e.bin != b }
  | .tray => { o with trayHeld := false }

/-- A bin or the tray as it goes FREE (R140). -/
def Bin.freed (b : Bin) : Bin := { b with state := .free, owner := none, pos := none, used := 0 }

/-- A bin or the tray as it goes STALE and leaves its owner (R137, R139). -/
def Bin.staled (b : Bin) : Bin := { b with state := .stale, owner := none, pos := none, used := 0 }

/-- The owner's record hears that a bin or the tray has left it (R3). -/
def State.reportFreed (s : State) (owner : Option Slot) (p : Container) : State :=
  match owner with
  | none => s
  | some slot => s.modifyOrder slot (·.placeFreed p)

/-- A bin or the tray goes FREE; its owner's record is told, and a pass is prompted (R140). -/
def State.freePlace (s : State) (p : Container) : State :=
  ((s.putPlace p (s.place p).freed).reportFreed (s.place p).owner p).prompt

/-- A bin or the tray goes STALE and leaves its order; no pass is prompted (R139, R140). -/
def State.stalePlace (s : State) (p : Container) : State :=
  (s.putPlace p (s.place p).staled).reportFreed (s.place p).owner p

/-- The bins and the tray that a slot owns, in ascending bin number with the tray last (R138). -/
def State.ownedPlaces (s : State) (slot : Slot) : List Container := places.filter fun p => (s.place p).ownedBy slot

/-- The order's bins and tray go to READY, and those reading empty go FREE (R138, R139). -/
def State.placesReady (s : State) (slot : Slot) : State :=
  let owned := s.ownedPlaces slot
  let s := owned.foldl (fun s p => s.putPlace p { s.place p with state := .ready }) s
  (owned.filter fun p => !(s.place p).occupied).foldl State.freePlace s

/-- The order's bins and tray are released: FREE where they read empty, STALE where they read occupied (R139). -/
def State.releasePlaces (s : State) (slot : Slot) : State :=
  (s.ownedPlaces slot).foldl (fun s p => if (s.place p).occupied then s.stalePlace p else s.freePlace p) s

/-- The end of CANCELLING (R19): with nothing delivered the places are released and the record freed with ORDER
CANCELLED; otherwise the order goes to CANCELLED, keeps what reads occupied, and may be collected already. -/
def State.endCancelling (s : State) (slot : Slot) : State :=
  match s.order slot with
  | none => s
  | some o =>
    if o.lines.all (fun l => l.delivered == 0) then
      ((s.releasePlaces slot).freeRecord slot o).notify (.orderCancelled o.number)
    else ((s.putOrder slot (some { o with state := .cancelled })).placesReady slot).tryFree slot

/-- What follows when the in-flight count of an order has reached 0 (R15). -/
def State.flightEmpty (s : State) (slot : Slot) : State :=
  match s.order slot with
  | none => s
  | some o => if o.state = .cancelling then s.endCancelling slot else s.tryFree slot

/-- A segment or item of the order has left the machine (R27). -/
def State.leftFlight (s : State) (slot : Slot) : State :=
  match s.order slot with
  | none => s
  | some o =>
    let s := s.putOrder slot (some { o with inFlight := o.inFlight - 1 })
    if o.inFlight - 1 = 0 then s.flightEmpty slot else s

/-! ## Completion -/

/-- Every copy of the line is accounted for (R10). -/
def Line.settled (l : Line) : Bool := l.delivered + l.cancelled == l.qty

/-- The completed order: hold cleared, priced, with its reasons and its state (R10, R157). -/
def Order.completed (o : Order) (t : Tally) : Order :=
  let short := o.lines.any Line.short
  { o with
    held := false
    tally := some t
    priceFault := t.fault
    shortReason := short
    state := if t.fault || short then .attention else .ready }

/-- The notice of a completed order (R10). -/
def Order.completionNotice (o : Order) (slot : Slot) : Notice :=
  let total := (o.tally.map Tally.total).getD 0
  if o.state = .ready then .orderReady o.number slot total o.disturbed
  else .orderAttention o.number slot total o.disturbed o.priceFault o.shortReason

/-- Completion, in the sequence of R10; the collected test of R11 comes last. -/
def State.completeOrder (s : State) (slot : Slot) (o : Order) : State :=
  let o := o.completed (s.pricing.commitTally o)
  let s := (s.leaveClassList slot).putOrder slot (some o)
  let s := (s.placesReady slot).annunciate
  let s := s.notify (o.completionNotice slot)
  s.tryFree slot

/-- The completion test after a count move of a PRINTING order (R10). -/
def State.completionTest (s : State) (slot : Slot) : State :=
  match s.order slot with
  | none => s
  | some o => if o.state = .printing ∧ o.lines.all Line.settled = true then s.completeOrder slot o else s

/-! ## Count moves (R22 to R26) -/

/-- A cause that uses a remake (R24). -/
def VoidCause.usesRemake : VoidCause → Bool
  | .cutterMiss | .rasterFault | .misroute => true
  | .jamVoid | .soakVoid | .haltVoid | .cancelVoid => false

/-- A copy moves from on web to queued as owed (R24). -/
def Line.owe (l : Line) : Line := { l with queued := l.queued + 1, owed := l.owed + 1, onWeb := l.onWeb - 1 }

/-- The line after a void report (R24, R25). -/
def Line.voided (l : Line) (limit : Nat) (cause : VoidCause) : Line :=
  if cause.usesRemake then
    if l.remakesUsed < limit then { l.owe with remakesUsed := l.remakesUsed + 1 }
    else { l with onWeb := l.onWeb - 1, cancelled := l.cancelled + 1, short := true }
  else l.owe

/-- The line after exposure of a copy has begun: the owed copy first (R23). -/
def Line.begun (l : Line) : Line := { l with queued := l.queued - 1, owed := l.owed - 1, onWeb := l.onWeb + 1 }

/-- The line after a delivery (R23). -/
def Line.deliver (l : Line) : Line := { l with onWeb := l.onWeb - 1, delivered := l.delivered + 1 }

/-- The owing and settled reports of R26, from the order's owed totals before and after a move. -/
def State.reportOwing (s : State) (slot : Slot) (before after : Nat) : State :=
  if before = 0 ∧ 0 < after then s.joinRemake slot
  else if 0 < before ∧ after = 0 then s.leaveRemake slot
  else s

/-- A count move on one line of a PRINTING order, with the reports of R26; a move that raises queued prompts a pass
(R53). It needs a copy to move (log entry 20). -/
def State.moveCount (s : State) (c : Copy) (can : Line → Bool) (f : Line → Line) : State :=
  match s.order c.slot with
  | none => s
  | some o =>
    match o.line c.line with
    | none => s
    | some l =>
      if o.state = .printing ∧ can l = true then
        let o' := o.setLine c.line (f l)
        let s := (s.putOrder c.slot (some o')).reportOwing c.slot o.owedTotal o'.owedTotal
        if l.queued < (f l).queued then s.prompt else s
      else s

/-- A void report of a copy, for every cause but a cancel (R24), with the completion test (R10). -/
def State.voidReport (s : State) (c : Copy) (cause : VoidCause) : State :=
  (s.moveCount c (fun l => decide (0 < l.onWeb)) (·.voided s.orders.remakeLimit cause)).completionTest c.slot

/-- A delivery report (R23), with the completion test (R10). -/
def State.deliveryReport (s : State) (c : Copy) : State :=
  (s.moveCount c (fun l => decide (0 < l.onWeb)) Line.deliver).completionTest c.slot

/-- The exposure-begin report: the counts move and the in-flight count rises (R23, R27). -/
def State.exposureReport (s : State) (c : Copy) : State :=
  (s.moveCount c (fun l => decide (0 < l.queued)) Line.begun).modifyOrder c.slot
    fun o => { o with inFlight := o.inFlight + 1 }

/-- The LIMITED report of a computed call (R4, R66). -/
def State.limitedReport (s : State) (c : Copy) : State :=
  s.modifyOrder c.slot fun o =>
    match o.line c.line with
    | none => o
    | some l => o.setLine c.line { l with limited := true }

/-- The disturbed report (R3). -/
def State.disturbedReport (s : State) (slot : Slot) : State := s.modifyOrder slot ({ · with disturbed := true })

end Sys2Proof.Machine
end

