-- ==== Sys2Proof/Machine/WebOps.lean ====
section
/-! DEFINITION. The shared operations on the web queue (chapter 5): entry, voiding, removal, and on the transport
(R94, R95, R168). -/

namespace Sys2Proof.Machine

open Sys2Proof

/-- A segment entered at the exposure line, LIVE and not presented; its name is the counter's value (R90). -/
def State.enterSegment (s : State) (kind : SegKind) (copy : Option Copy) (length : Nat) (width : Width)
    (gap tag : Nat) : State :=
  (s.setWeb { s.web with
    queue := s.web.queue ++ [⟨s.web.nextSid, kind, copy, 0, length, width, gap, none, false, tag⟩]
    nextSid := s.web.nextSid + 1 }).transportTest

/-- The LIVE PRINT and INDEX segments of the queue that a void request names, oldest first (R98). -/
def Web.voidTargets (w : Web) (p : Segment → Bool) : List Segment :=
  w.queue.filter fun g => g.liveCopy.isSome && p g

/-- A segment after a void request that names it (R98). -/
def Segment.voidFor (cause : VoidCause) (p : Segment → Bool) (g : Segment) : Segment :=
  if g.liveCopy.isSome && p g then { g with void := some cause } else g

/-- A void request (R98): the segments it names become VOID with the cause; for every cause but a cancel each is
then reported to the Order Table, oldest first. -/
def State.voidSegments (s : State) (cause : VoidCause) (p : Segment → Bool) : State :=
  let hit := s.web.voidTargets p
  let s := s.setWeb { s.web with queue := s.web.queue.map (Segment.voidFor cause p) }
  if cause = .cancelVoid then s
  else (hit.filterMap Segment.liveCopy).foldl (fun s c => s.voidReport c cause) s

/-- Void one (R98). -/
def State.voidOne (s : State) (cause : VoidCause) (sid : Nat) : State := s.voidSegments cause (·.sid == sid)

/-- The oldest segment leaves the queue. Without hand-off its order's in-flight count falls (R97, R27). Room is
reported, and a pass is prompted (R90, R53). -/
def State.removeFront (s : State) (handedOff : Bool) : State :=
  match s.web.queue with
  | [] => s
  | g :: rest =>
    let s := (s.setWeb { s.web with queue := rest }).prompt.headTest.stripTest.transportTest
    match handedOff, g.copy with
    | false, some c => s.leftFlight c.slot
    | _, _ => s

/-- The Web Tracker's report of a transport change to Stop Control, which starts and cancels the soak timer (R95,
R168). -/
def State.transportReport (s : State) (t : Transport) : State :=
  match t with
  | .running => s.setStop { s.stop with soak := none }
  | .stopped =>
    if s.engine.state = .halted ∧ s.web.soakTouched = true then
      s.setStop { s.stop with soak := some s.stop.soakLimit }
    else s
  | .idle => s

/-- The transport state set, with the drive output, and its change reported (R94, R95). -/
def State.setTransport (s : State) (t : Transport) : State :=
  if s.web.transport = t then s
  else
    ((s.setWeb { s.web with transport := t }).setLines
      { s.lines with transportDrive := t == .running }).transportReport t

/-- The transport re-evaluated from the engine state and the keep-running conditions (R94). -/
def State.evalTransport (s : State) : State := s.setTransport s.transportFor

end Sys2Proof.Machine
end

