-- ==== Sys2Proof/Machine/ExposureOps.lean ====
section
/-! DEFINITION. The shared operations on the raster call pipeline (chapter 4): entering a call, removing, withdrawing
and abandoning calls, exposure begin and exposure end. -/

namespace Sys2Proof.Machine

open Sys2Proof

/-- The tag after this one: tags run 1..65535 and wrap (R71). -/
def nextTag (t : Nat) : Nat := if t < 65535 then t + 1 else 1

/-- A call leaves the pipeline; the Scheduler is told, and the head may have become clear (R53, R87, R76). -/
def State.removeCall (s : State) (tag : Nat) : State :=
  (s.setExpo { s.expo with calls := s.expo.calls.filter (·.tag != tag) }).prompt.headTest.transportTest

/-- A call rewritten in place. -/
def State.setCall (s : State) (tag : Nat) (f : Call → Call) : State :=
  s.setExpo { s.expo with calls := s.expo.calls.map fun c => if c.tag = tag then f c else c }

/-- The call of this tag. -/
def State.call (s : State) (tag : Nat) : Option Call := s.expo.calls.find? (·.tag == tag)

/-- A call abandoned on the port: CALL CANCEL raised, the call removed (R75, R78, R84). -/
def State.cancelCall (s : State) (c : Call) : State := (s.sendCancel c.tag).removeCall c.tag

/-- The calls in PREPARING or READY that `p` names are withdrawn (R84). Of two calls that one event withdraws the older
is withdrawn first, which is the model's choice (log entry 42). -/
def State.withdraw (s : State) (p : Call → Bool) : State :=
  (s.expo.calls.filter fun c => c.waiting && p c).foldl State.cancelCall s

/-- The exposing calls that `p` names are abandoned: CALL CANCEL, gate released, call removed (R85). Their
segments are voided by the caller, and the trailing-segment record stays. -/
def State.abandon (s : State) (p : Call → Bool) : State :=
  (s.expo.calls.filter fun c => c.state == .exposing && p c).foldl (fun s c => ((s.sendCancel c.tag).gate false).removeCall c.tag) s

/-- The calls in AWAITING DONE that `p` names are removed, with no record sent (R86). -/
def State.dropAwaiting (s : State) (p : Call → Bool) : State :=
  (s.expo.calls.filter fun c => c.state == .awaitingDone && p c).foldl (fun s c => s.removeCall c.tag) s

/-- A copy handed over by the Scheduler becomes a call: times computed and LIMITED reported, tag taken, the call
entered in PREPARING, FRAME CALL raised, the READY timer started (R73). -/
def State.enterCall (s : State) (c : Copy) (l : Line) (width : Width) (length gap : Nat) : State :=
  match s.mags.activeRec with
  | none => s
  | some m =>
    let times := exposureTimes m s.mags.drift l.corr
    let s := if times.2 then s.limitedReport c else s
    let tag := nextTag s.expo.lastTag
    let call : Call :=
      ⟨tag, c.slot, c.line, l.kind, l.image, width, length, gap, times.1, .preparing, none, none,
        some s.expo.readyTimeout⟩
    (s.setExpo { s.expo with lastTag := tag, calls := s.expo.calls ++ [call] }).sendPort
      (.frameCall tag l.image l.kind width length times.1)

/-- Exposure begins for a READY call, in the sequence of R77. -/
def State.beginExposure (s : State) (c : Call) : State :=
  let sid := s.web.nextSid
  let s := s.setCall c.tag fun c => { c with state := .exposing, segment := some sid }
  let s := s.gate true
  let s := s.enterSegment (segKindOf c.kind) (some ⟨c.slot, c.line⟩) c.length c.width c.gap c.tag
  let s := s.setExpo { s.expo with trailing := some sid }
  (s.exposureReport ⟨c.slot, c.line⟩).prompt

/-- The call whose turn it is to begin: every call ahead of it has begun exposing (R76). -/
def Exposure.turn (e : Exposure) : Option Call := e.calls.find? Call.waiting

/-- The conditions of R76 besides the turn: no call exposing, the trailing-segment record clear, the gap of the
youngest segment run, room on the queue. The engine is in RUN whenever they hold (R76, R72; log entry 27). -/
def State.headFree (s : State) : Bool :=
  s.engine.state == .run && !(s.expo.calls.any fun c => c.state == .exposing) && s.expo.trailing.isNone
    && s.web.gapRun && decide (s.web.queue.length < Config.webCap)

/-- The test of R76 with the second paper test: the call whose turn it is begins (R77), or is refused and the next
is tested in its turn (R78). `fuel` bounds the calls tested. -/
def State.exposeTest : Nat → State → State
  | 0, s => s
  | fuel + 1, s =>
    match s.expo.turn with
    | none => s
    | some c =>
      if c.state = .ready ∧ s.headFree = true then
        if s.mags.paperTest c.width c.length c.gap then s.beginExposure c
        else State.exposeTest fuel (s.cancelCall c)
      else s

/-- The call that is exposing this segment. -/
def Exposure.exposingSegment (e : Exposure) (sid : Nat) : Option Call :=
  e.calls.find? fun c => c.state == .exposing && c.segment == some sid

/-- Exposure end of a call, and the mark of an abandoned frame, once the trail of the segment in the trailing-segment
record is at or beyond the exposure line (R79). -/
def State.exposureEndTest (s : State) : State :=
  match s.expo.trailing with
  | none => s
  | some sid =>
    match s.segment sid with
    | none => s
    | some g =>
      if g.trail < 0 then s
      else
        let clear (s : State) : State :=
          ((s.strobe (.markWritten sid)).setExpo { s.expo with trailing := none }).headTest.stripTest
        match s.expo.exposingSegment sid with
        | none => clear s
        | some c =>
          let s := (clear (s.gate false)).prompt.transportTest
          if c.early.isNone then
            s.setCall c.tag fun c => { c with state := .awaitingDone, timer := some Config.doneTimeout }
          else s.removeCall c.tag

end Sys2Proof.Machine
end

