-- ==== Sys2Proof/Machine/PaperOps.lean ====
section
/-! DEFINITION. The shared operations on paper (chapter 2): the news that the paper has changed with the paper check
of R63, the changeover, and the count of paper remaining. -/

namespace Sys2Proof.Machine

open Sys2Proof

/-- The width of a line's product in the size table (R28). -/
def State.lineWidth (s : State) (l : Line) : Option Width := (s.lookupSize l.product).map SizeEntry.width

/-- A line that causes PAPER NEEDED: queued above 0, mark clear, its width not among the loaded widths (R63). -/
def State.wantsPaper (s : State) (l : Line) : Option Width :=
  if 0 < l.queued ∧ l.paperMark = false then
    (s.lineWidth l).bind fun w => if s.mags.loadedWidths.contains w then none else some w
  else none

/-- The paper check of one order's lines from line number `n` on (R63). -/
def State.paperCheckLines (slot : Slot) (number : Nat) : Nat → List Line → State → State
  | _, [], s => s
  | n, l :: ls, s =>
    let s :=
      match s.wantsPaper l with
      | none => s
      | some w =>
        (s.modifyOrder slot (·.setLine n { l with paperMark := true })).notify
          (.paperNeeded number slot n l.product w)
    State.paperCheckLines slot number (n + 1) ls s

/-- The paper check of R63: in RUN and PAUSED, over every order on the express and standard lists. -/
def State.paperCheck (s : State) : State :=
  if s.engine.state = .run ∨ s.engine.state = .paused then
    (s.sched.express ++ s.sched.standard).foldl (init := s) fun s slot =>
      match s.order slot with
      | none => s
      | some o => State.paperCheckLines slot o.number 1 o.lines s
  else s

/-- The Magazine Controller's report that the paper has changed (R30): the paper check runs, a pass is prompted
(R53), and in RECOVERY the Cutter tests for a strip again (R116). -/
def State.paperChanged (s : State) : State := s.paperCheck.prompt.stripTest

/-- The Magazine Controller's answer to a request for a changeover to a width (R39). -/
def State.requestChangeover (s : State) (w : Width) : State :=
  match s.mags.change, s.mags.target w with
  | .idle, some m =>
    let s := s.setMags { s.mags with change := .pending m s.mags.selector }
    ((s.withdraw fun _ => true).paperChanged).headTest
  | _, _ => s

/-- A changeover that has not completed ends without a cause of its own (R43). -/
def State.endChangeover (s : State) : State :=
  match s.mags.change with
  | .idle => s
  | .pending _ _ => (s.setMags { s.mags with change := .idle }).paperChanged
  | .threading m _ => (((s.setMags { s.mags with change := .idle }).threadDrive m false).transportTest).paperChanged

/-- The roll taken off the head goes from ACTIVE to LOADED; in any other state it is left as it is (R40). -/
def unthread (r : MagRec) : MagRec := if r.state = .active then { r with state := .loaded } else r

/-- The magazine named by `source` as the feed cut leaves it (R40). -/
def Magazines.unthreadSource (g : Magazines) (source : Option MagId) : Magazines :=
  match source with
  | none => g
  | some m => g.put m ((g.get m).map unthread)

/-- The width of the roll being threaded. -/
def Magazines.widthOf (g : Magazines) (m : MagId) : Option Width := (g.get m).map MagRec.width

/-- The feed cut of a PENDING changeover, once the head is clear and the entry conditions of R90 hold, in the
sequence of R40. -/
def State.feedCutTest (s : State) : State :=
  match s.mags.change with
  | .pending target source =>
    match s.mags.widthOf target with
    | none => s
    | some w =>
      if s.expo.headClear = true ∧ s.web.canEnter = true then
        let s := (s.strobe .feedCut).enterSegment .paperEnd none 0 w 0 0
        let s := s.setMags { s.mags.unthreadSource source with selector := none, change := .threading target source }
        (s.threadDrive target true).transportTest.paperChanged.annunciate
      else s
  | .idle => s
  | .threading _ _ => s

/-- The changeover completes on the paper-at-head sensor (R41). CHANGEOVER DONE is queued before the report that the paper
has changed, and so before any PAPER NEEDED of that report, which is the model's choice (log entry 50). -/
def State.completeChangeover (s : State) (m : MagId) (r : MagRec) : State :=
  let s := (s.threadDrive m false).setMags
    { s.mags.put m (some { r with state := .active }) with selector := some m, change := .idle }
  ((s.notify (.changeoverDone m r.width r.remaining)).paperChanged.headTest.transportTest).annunciate

/-- The reduction of R35 on the magazine the selector names, with the tests of R36 and R38. Where one reduction meets
both, PAPER LOW is queued first, with its condition shown, which is the model's choice (log entry 34). MAGAZINE EMPTY is
queued before any PAPER NEEDED of the report that the paper has changed, which is the model's choice too (log entry
50). -/
def State.usePaper (s : State) (distance : Nat) : State :=
  match s.mags.selector, s.mags.activeRec with
  | some m, some r =>
    let left := r.remaining - distance
    let lowNow := decide (left < r.low) && !r.lowReported
    let s := s.putMag m (some { r with remaining := left, lowReported := r.lowReported || lowNow })
    let s := if lowNow then (s.notify (.paperLow m r.width left)).annunciate else s
    if left = 0 then
      let s := s.putMag m (some { r with state := .empty, remaining := 0, lowReported := r.lowReported || lowNow })
      ((s.notify (.magazineEmpty m r.width)).paperChanged).annunciate
    else s
  | _, _ => s

end Sys2Proof.Machine
end

