-- ==== Sys2Proof/Machine/StopOps.lean ====
section
/-! DEFINITION. The shared operations of Stop Control (chapter 9): taking a halt cause, entering HALTED, and the
raster miss count that raises RASTER (R83). -/

namespace Sys2Proof.Machine

open Sys2Proof

/-- The engine enters HALTED and the blocks act on it (R164): calls withdrawn, the exposing call abandoned with its
segment voided as a halt void, the changeover ended, the purge OFF, the transport STOPPED with the soak test last. -/
def State.haltEntry (s : State) : State :=
  let s := s.setEngine { s.engine with state := .halted }
  let s := s.withdraw fun _ => true
  let sids := (s.expo.calls.filter (·.state == .exposing)).filterMap Call.segment
  let s := (s.abandon fun _ => true).voidSegments .haltVoid (fun g => sids.contains g.sid)
  let s := s.endChangeover
  (s.setWeb { s.web with purge := none }).setTransport .stopped

/-- The halt cause set with a cause added, each cause once (R163, R165). -/
def addCause (cs : List HaltCause) (c : HaltCause) : List HaltCause := if cs.contains c then cs else cs ++ [c]

/-- The return state of a halt: the one Stop Control remembers (R163; log entry 24 where none is). -/
def State.haltReturn (s : State) : EngineState := s.stop.ret.getD .run

/-- A halt begun by its first cause: the cause and the return state recorded, HALTED entered, the HALTED notice
queued last (R163). -/
def State.startHalt (s : State) (cause : HaltCause) (ret : EngineState) (jam : Option (JamSource × Nat)) : State :=
  let s := s.setStop { s.stop with causes := addCause s.stop.causes cause, ret := some ret }
  let s := s.annunciate.haltEntry
  s.notify (.halted cause s.stop.causes s.haltReturn jam)

/-- A cause added in HALTED: a HALTED notice when the set did not hold it, and the return state kept (R165). -/
def State.joinHalt (s : State) (cause : HaltCause) (jam : Option (JamSource × Nat)) : State :=
  if s.stop.causes.contains cause then s
  else
    let s := (s.setStop { s.stop with causes := s.stop.causes ++ [cause] }).annunciate
    s.notify (.halted cause s.stop.causes s.haltReturn jam)

/-- A raised cause taken according to the engine state (R163, R165). `back` is the return state that a failed
recovery hands over (R117). In SETUP no cause but that of an accepted ENTER RUN is added. -/
def State.raiseCause (s : State) (cause : HaltCause) (jam : Option (JamSource × Nat)) (back : Option EngineState) :
    State :=
  match s.engine.state with
  | .setup => s
  | .halted => s.joinHalt cause jam
  | .run => s.startHalt cause (back.getD .run) jam
  | .paused => s.startHalt cause (back.getD .paused) jam
  | .recovery => s.startHalt cause (back.getD .recovery) jam

/-- A raise of the raster miss count, which halts with RASTER when it brings the count to 3 or finds it there
(R83). -/
def State.raiseMiss (s : State) : State :=
  let s := s.setExpo { s.expo with miss := min 3 (s.expo.miss + 1) }
  if 3 ≤ s.expo.miss then s.raiseCause .raster none none else s

/-- A sensor as the source of a JAM (R163). -/
def jamSourceOf : JamSensor → JamSource
  | .j1 => .j1
  | .j2 => .j2
  | .j3 => .j3

end Sys2Proof.Machine
end

