-- ==== Sys2Proof/Machine/SorterOps.lean ====
section
/-! DEFINITION. The shared operations of the Sorter (chapter 7): grants, routing, the transit list, the sorter jam. -/

namespace Sys2Proof.Machine

open Sys2Proof

/-! ## Grants (R126) -/

/-- The chain of a grant: the first bins with positions 0, 1, 2, 3 in ascending bin number (R126, R3). -/
def chainOf (bins : List BinIx) : List ChainEntry := bins.mapIdx fun i b => ⟨b, i⟩

/-- One bin of a grant becomes OWNED with units used 0 (R126). -/
def State.grantBin (slot : Slot) (s : State) (e : ChainEntry) : State :=
  s.putBin e.bin { s.sorter.bins[e.bin] with state := .owned, owner := some slot, pos := some e.pos, used := 0 }

/-- The grant of a WAITING order's bins or of the tray, recorded in its record with its change to PRINTING, and its
removal from the bin-wait set (R126, R58, R9, R65). -/
def State.grant (s : State) (slot : Slot) (o : Order) : State :=
  match s.sorter.needs[slot] with
  | none => s
  | some n =>
    if n.bulk then
      let s := s.setSorter { s.sorter with
        tray := { s.sorter.tray with state := .owned, owner := some slot, pos := none, used := 0 } }
      (s.putOrder slot (some { o with state := .printing, trayHeld := true })).leaveBinWait slot
    else
      let chain := chainOf (s.freeBins.take n.bins)
      let s := chain.foldl (State.grantBin slot) s
      (s.putOrder slot (some { o with state := .printing, bins := chain })).leaveBinWait slot

/-! ## Routing (R128, R129) -/

/-- The bin units of a copy's product (R128). -/
def State.unitsOf (s : State) (c : Copy) : Nat :=
  ((((s.order c.slot).bind fun o => o.line c.line).bind fun l => s.lookupSize l.product).map SizeEntry.units).getD 0

/-- A bin of the chain has room for the units (R129). -/
def State.fits (s : State) (units : Nat) (e : ChainEntry) : Bool :=
  decide (s.sorter.bins[e.bin].used + s.sorter.bins[e.bin].routed + units ≤ s.sorter.binCapacity)

/-- The destination of a LIVE item of an order: the tray, or first fit in chain position sequence, or the bin with
the highest position (R129). -/
def State.liveDest (s : State) (o : Order) (units : Nat) : DropPoint :=
  if o.bulk then .tray
  else
    match o.bins.find? (s.fits units) with
    | some e => .bin e.bin
    | none =>
      match o.bins.getLast? with
      | some e => .bin e.bin
      | none => .reject

/-- The destination of an item (R129). -/
def State.destination (s : State) (c : Copy) (void : Option VoidCause) (units : Nat) : DropPoint :=
  match void, s.order c.slot with
  | none, some o => s.liveDest o units
  | _, _ => .reject

/-- Units routed of a destination raised (R128). -/
def State.raiseRouted (s : State) (d : DropPoint) (units : Nat) : State :=
  match dropPlace d with
  | none => s
  | some p => s.putPlace p { s.place p with routed := min ((s.place p).routed + units) Config.max16 }

/-- Units routed of a destination lowered (R123, R132). -/
def State.lowerRouted (s : State) (d : DropPoint) (units : Nat) : State :=
  match dropPlace d with
  | none => s
  | some p => s.putPlace p { s.place p with routed := (s.place p).routed - units }

/-- Units used of a bin or the tray raised, held at 65,535 (R123). -/
def State.raiseUsed (s : State) (p : Container) (units : Nat) : State :=
  s.putPlace p { s.place p with used := min ((s.place p).used + units) Config.max16 }

/-- The reject count raised, held at 65,535 (R141). -/
def State.raiseReject (s : State) : State :=
  s.setSorter { s.sorter with reject := min (s.sorter.reject + 1) Config.max16 }

/-- The transit list replaced. -/
def State.setTransit (s : State) (ts : List Item) : State := s.setSorter { s.sorter with transit := ts }

/-- After a drop: the sort timer restarted for the new oldest item, or cancelled with the sort drive released when
the list is empty (R131, R132). -/
def State.restartSort (s : State) : State :=
  if s.sorter.transit.isEmpty then (s.setSorter { s.sorter with timer := none }).sortDrive false
  else s.setSorter { s.sorter with timer := some Config.sortTimeout }

/-- One item removed by a sorter jam: reported voided as a jam void when LIVE, reported as having left (R130). -/
def State.jamItem (s : State) (it : Item) : State :=
  let s := if it.void.isNone then s.voidReport it.copy .jamVoid else s
  s.leftFlight it.copy.slot

/-- The number of LIVE items (R163). -/
def liveCount (ts : List Item) : Nat := (ts.filter fun t => t.void.isNone).length

/-- The items of the list removed by a sorter jam, oldest first, in the sequence of R130. -/
def State.clearTransit : List Item → State → State
  | [], s => s
  | it :: ts, s => State.clearTransit ts (((s.setTransit ts).jamItem it).lowerRouted it.dest it.units)

/-- A sorter jam (R130, R131): every item on the list and the new item, if any, is voided and reported; the timer is
cancelled, the sort drive released, and JAM raised. -/
def State.sorterJam (s : State) (new : Option Item) : State :=
  let n := liveCount (s.sorter.transit ++ new.toList)
  let s := State.clearTransit s.sorter.transit s
  let s := new.toList.foldl State.jamItem s
  let s := (s.setSorter { s.sorter with timer := none }).sortDrive false
  s.raiseCause .jam (some (.sorter, n)) none

/-- A cut PRINT or INDEX segment handed to the Sorter (R128, R130). -/
def State.acceptItem (s : State) (kind : PrintKind) (c : Copy) (void : Option VoidCause) : State :=
  let units := s.unitsOf c
  if Config.transitCap ≤ s.sorter.transit.length then s.sorterJam (some ⟨kind, c, void, units, .reject⟩)
  else
    let dest := s.destination c void units
    let first := s.sorter.transit.isEmpty
    let s := s.setTransit (s.sorter.transit ++ [⟨kind, c, void, units, dest⟩])
    let s := s.raiseRouted dest units
    let s := s.setLines { s.lines with destination := dropCode dest }
    if first then (s.sortDrive true).setSorter { s.sorter with timer := some Config.sortTimeout } else s

/-! ## Drops (R132, R133) -/

/-- An item that fell where it was sent lands (R132). -/
def State.land (s : State) (it : Item) : State :=
  match dropPlace it.dest with
  | none => s.raiseReject
  | some p =>
    let s := s.raiseUsed p it.units
    if it.void.isNone then s.deliveryReport it.copy else s

/-- The bin or the tray struck by a misrouted item (R133 step 2). -/
def State.strike (s : State) (p : Container) (units : Nat) : State :=
  let b := s.place p
  let s := s.raiseUsed p units
  match b.state, b.owner with
  | .free, _ => s.putPlace p { s.place p with state := .stale }
  | .owned, some slot => s.disturbedReport slot
  | .ready, some slot => s.disturbedReport slot
  | _, _ => s

/-- An item that fell elsewhere is a misroute, in the sequence of R133 up to its own order's report. -/
def State.misroute (s : State) (it : Item) (struck : DropPoint) : State :=
  let s := if it.void.isNone then s.voidReport it.copy .misroute else s
  let s :=
    match dropPlace struck with
    | some p => s.strike p it.units
    | none => s.raiseReject
  s.disturbedReport it.copy.slot

/-- A drop at a point confirms the oldest item (R132) or misroutes it (R133); with an empty list it is ignored
(R134). -/
def State.drop (s : State) (point : DropPoint) : State :=
  match s.sorter.transit with
  | [] => s
  | it :: ts =>
    let s := (s.setTransit ts).lowerRouted it.dest it.units
    let s := if it.dest = point then s.land it else s.misroute it point
    (s.leftFlight it.copy.slot).restartSort

/-- The LIVE items of a cancelled order are voided in transit, with no count report (R135). -/
def State.voidItems (s : State) (slot : Slot) : State :=
  s.setTransit (s.sorter.transit.map fun it =>
    if it.copy.slot = slot ∧ it.void.isNone = true then { it with void := some .cancelVoid } else it)

end Sys2Proof.Machine
end

