-- ==== Sys2Proof/Machine/CutterOps.lean ====
section
/-! DEFINITION. The shared operations at the blade (chapter 6, R96, R97, R100): presentation, the mark check and its
close, the fault count, recovery, the purge and the entry into a working engine state. -/

namespace Sys2Proof.Machine

open Sys2Proof

/-! ## Fault count (R112, R113) -/

/-- The fault count written; a change of mode is reported to the Scheduler (R112, R53). -/
def State.setCount (s : State) (n : Nat) : State :=
  let s' := s.setCutter { s.cutter with count := n }
  if s'.cutter.blind = s.cutter.blind then s' else s'.prompt

/-- The fault count after a closed check (R112). -/
def countAfter (count : Nat) (found : Bool) : Nat := if found then count - 1 else min (count + 8) 255

/-- A miss that would take the count above 255 raises CUTTER (R112). -/
def countOver (count : Nat) (found : Bool) : Bool := !found && decide (255 < count + 8)

/-- The mode notices of a move of the count, in the sequence of R113. -/
def State.modeNotices (s : State) (old new : Nat) : State :=
  let lim := s.cutter.warningLimit
  let s := if old < lim ∧ lim ≤ new then s.notify (.cutterWarning new lim) else s
  let s := if old ≤ 127 ∧ 128 ≤ new then s.notify (.cutterBlind new lim) else s
  if 128 ≤ old ∧ new ≤ 127 then s.notify (.cutterMarked new lim) else s

/-! ## Engine state and purge -/

/-- The engine state changed and reported (R183): the transport, the strip entry and, on reaching RUN, a pass are
called for (R94, R116, R53). -/
def State.enterEngine (s : State) (e : EngineState) : State :=
  let s := (s.setEngine { s.engine with state := e }).transportTest.stripTest
  if e = .run then s.prompt else s

/-- The distance target of a purge that begins now (R100). -/
def Web.purgeTarget (w : Web) : Int :=
  match w.youngest with
  | none => w.stations.cut + 2000
  | some g => if 0 ≤ g.trail then w.stations.cut + 2000 else w.stations.cut + 2000 - g.trail

/-- The purge record set IN PROGRESS, and the chop distance set to 0 (R100, R107). -/
def State.startPurge (s : State) : State :=
  ((s.setWeb { s.web with purge := some ⟨s.web.purgeTarget, 0⟩ }).setCutter { s.cutter with chop := 0 }).transportTest

/-- The engine state entered is one in which an unknown web is purged (R100). -/
def State.needsPurge (s : State) : Bool :=
  s.engine.webUnknown && (s.engine.state == .run || s.engine.state == .paused)

/-! ## Recovery (R117) -/

/-- The recovery record after a closed check (R117). -/
def Recovery.after (r : Recovery) (found : Bool) : Recovery :=
  { r with checked := r.checked + 1, remaining := if found then r.remaining - 1 else r.runLength }

/-- The success of a recovery (R117); the check in hand is closed, so a purge that begins here cuts nothing. -/
def State.recoverySuccess (s : State) : State :=
  let s := s.setCount 0
  let ret := s.cutter.recovery.ret
  let s := (s.setCutter { s.cutter with recovery := { s.cutter.recovery with kind := .none } }).enterEngine ret
  let s := s.notify (.recoveryDone s.cutter.count ret)
  if s.needsPurge then s.startPurge else s

/-- The failure of a recovery (R117). -/
def State.recoveryFailure (s : State) : State :=
  let s := s.setCount 255
  let s := s.setCutter { s.cutter with recovery := { s.cutter.recovery with kind := .none } }
  let s := s.notify (.recoveryFailed s.cutter.count s.cutter.recovery.checked)
  s.raiseCause .cutter none (some s.cutter.recovery.ret)

/-- A mark check closed in RECOVERY (R117). -/
def State.recoveryOutcome (s : State) (found : Bool) : State :=
  let s := s.setCutter { s.cutter with recovery := s.cutter.recovery.after found }
  if s.cutter.recovery.remaining = 0 then s.recoverySuccess
  else if Config.recoveryCap ≤ s.cutter.recovery.checked then s.recoveryFailure
  else s

/-- A recovery attempt set up (R115, R120). -/
def State.startRecovery (s : State) (kind : RecoveryKind) (run : Nat) (ret : EngineState) (shortDue : Bool) : State :=
  s.setCutter { s.cutter with recovery := ⟨kind, run, run, 0, 0, ret, shortDue⟩ }

/-! ## At the blade -/

/-- The distance by which a segment's trail lies beyond CUT_POS (R108). -/
def State.beyondCut (s : State) (g : Segment) : Int := g.trail - s.web.stations.cut

/-- The stroke of a closed check: at the found mark when `atMark`, else at the trail (R109, R116). -/
def State.stroke (s : State) (g : Segment) (atMark : Bool) : State :=
  match atMark, s.cutter.mark with
  | true, some k => s.strobe (.bladeAtMark k.m)
  | _, _ => s.strobe (.bladeAtTrail (s.beyondCut g))

/-- The front segment cut to waste: first voided as a halt void in a purge when it is LIVE, then cut at its trail and
removed without hand-off (R107, R97). `next` presents what follows. -/
def State.cutToWaste (next : State → State) (s : State) (g : Segment) : State :=
  let s := if s.web.purge.isSome then s.voidOne .haltVoid g.sid else s
  next ((s.strobe (.bladeAtTrail (s.beyondCut g))).removeFront false)

/-- The front segment handed to the Sorter with the status it has now (R109, R110). -/
def State.handOff (s : State) : State :=
  match s.web.queue with
  | [] => s
  | g :: _ =>
    match g.copy with
    | none => s
    | some c => s.acceptItem (itemKindOf g.kind) c g.void

/-- The check of a PRINT or INDEX segment closes: the seven steps of R109. The count moves in RUN and PAUSED alone
(R112), the recovery record in RECOVERY (R117). In SETUP and HALTED no check closes (R108, R134), and neither would
move (log entry 24). -/
def State.closePrint (next : State → State) (found : Bool) (s : State) (g : Segment) : State :=
  let blind := s.cutter.blind
  let old := s.cutter.count
  let s := if !blind && !found then s.voidOne .cutterMiss g.sid else s
  let recovering := s.engine.state == .recovery
  let working := s.engine.state == .run || s.engine.state == .paused
  let s := if recovering then s.recoveryOutcome found
    else if working then s.setCount (countAfter old found) else s
  let s := s.stroke g (!blind && found)
  let s := s.handOff
  let s := next (s.removeFront true)
  if working then
    let s := s.modeNotices old (countAfter old found)
    if countOver old found then s.raiseCause .cutter none none else s
  else s

/-- The check of a MARK STRIP closes in RECOVERY (R116). -/
def State.closeStrip (next : State → State) (found : Bool) (s : State) (g : Segment) : State :=
  next (((s.recoveryOutcome found).stroke g found).removeFront false)

/-- The check in hand closes: a found mark is matched, and the outcome is taken by the segment's kind (R108). -/
def State.closeCheck (next : State → State) (found : Bool) (s : State) (g : Segment) : State :=
  let s := s.setCutter { s.cutter with
    check := none
    mark := if found then s.cutter.mark.map ({ · with matched := true }) else s.cutter.mark }
  if g.kind = .markStrip then
    if s.engine.state = .recovery then s.closeStrip next found g else s.cutToWaste next g
  else s.closePrint next found g

/-- The mark memory holds an unmatched mark within the window of the trail (R108). -/
def Cutter.markNear (c : Cutter) (e : Int) : Bool :=
  c.mark.any fun k => !k.matched && decide ((k.m : Int) - e ≤ c.markWindow ∧ e - k.m ≤ c.markWindow)

/-- The mark check of a presented segment opens, with the window in force (R108, R114). -/
def State.openCheckOf (s : State) (g : Segment) : State :=
  s.setCutter { s.cutter with check := some ⟨g.sid, s.cutter.markWindow⟩ }

/-- The presented segment taken by the Cutter: cut to waste, or its mark check (section 6.2, R107, R108). In HALTED the
Cutter hands on no items (R134): the check of a PRINT or INDEX segment opens and closes once the transport runs again
(R108, R111; log entry 23). -/
def State.takePresented (next : State → State) (s : State) (g : Segment) : State :=
  if s.web.purge.isSome ∨ (g.kind = .markStrip ∧ s.engine.state ≠ .recovery) then s.cutToWaste next g
  else if s.engine.state = .halted then s.openCheckOf g
  else if s.cutter.markNear (s.beyondCut g) then s.closeCheck next true g
  else if (s.cutter.markWindow : Int) < s.beyondCut g then s.closeCheck next false g
  else s.openCheckOf g

/-- The front segment's trail has reached CUT_POS and it has not been presented (R96). -/
def State.frontDue (s : State) (g : Segment) : Bool :=
  !g.presented && decide ((s.web.stations.cut : Int) ≤ g.trail)

/-- Presentation of the oldest segments at the blade, one after another as each leaves, whatever the close of one has
made of the engine state (R96, R97; log entry 23). `fuel` bounds the segments looked at. -/
def State.serve : Nat → State → State
  | 0, s => s
  | fuel + 1, s =>
    match s.web.queue with
    | [] => s
    | g :: rest =>
      if s.frontDue g then
        if g.kind = .paperEnd then State.serve fuel (s.removeFront false)
        else
          let g' := { g with presented := true }
          (s.setWeb { s.web with queue := g' :: rest }).takePresented (State.serve fuel) g'
      else s

/-- Presentation with fuel for every segment on the queue. -/
def State.serveBlade (s : State) : State := State.serve (s.web.queue.length + 1) s

/-- The front segment while its check is open. -/
def State.openCheck (s : State) : Option (Segment × Check) :=
  match s.cutter.check, s.web.queue with
  | some k, g :: _ => if g.sid = k.sid then some (g, k) else none
  | _, _ => none

/-- A purge begins (R100): an open check is abandoned and its segment cut to waste in the same event (R111). -/
def State.beginPurge (s : State) : State :=
  let s := s.startPurge
  match s.openCheck with
  | none => s
  | some (g, _) => (s.setCutter { s.cutter with check := none }).cutToWaste State.serveBlade g

/-- The engine brought into RUN or PAUSED from SETUP or HALTED, or back into RECOVERY, with a purge where R100 calls
for one. -/
def State.enterWorking (s : State) (e : EngineState) : State :=
  let s := s.enterEngine e
  if s.needsPurge then s.beginPurge else s

/-- An encoder event brings the trail of the open check's segment beyond its window: the mark is missed (R108). -/
def State.missTest (s : State) : State :=
  match s.openCheck with
  | none => s
  | some (g, k) => if (k.window : Int) < s.beyondCut g then s.closeCheck State.serveBlade false g else s

/-! ## Mark strips (R116) -/

/-- The magazine whose width the Cutter asks for: A when LOADED and not named by the selector, else B (R116). -/
def Magazines.recoveryWidth (g : Magazines) : Option Width :=
  [MagId.a, .b].findSome? fun m =>
    if g.selector = some m then none
    else (g.get m).bind fun r => if r.state = .loaded then some r.width else none

/-- The active roll passes the paper test for a strip (R116). -/
def Magazines.stripPaper (g : Magazines) : Option Width :=
  g.activeWidth.bind fun w => if g.paperTest w Config.stripLength 0 then some w else none

/-- The Cutter's step in RECOVERY: a strip entered where room, paper and the number entered allow, or, whatever that
number, a changeover asked for where the paper test fails for want of an ACTIVE roll of 40 units (R116). -/
def State.stripStep (s : State) : State :=
  if s.engine.state = .recovery then
    match s.mags.stripPaper with
    | some w =>
      if s.cutter.recovery.entered < Config.recoveryCap ∧ s.web.canEnter = true then
        (s.enterSegment .markStrip none Config.stripLength w 0 0).setCutter
          { s.cutter with recovery := { s.cutter.recovery with entered := s.cutter.recovery.entered + 1 } }
      else s
    | none =>
      match s.mags.recoveryWidth with
      | some w => if s.mags.change = .idle then s.requestChangeover w else s
      | none => s
  else s

/-! ## Purge progress (R101, R102, R107) -/

/-- The blank web of a purge chopped by an encoder event (R107). -/
def State.chopWeb (s : State) (distance : Nat) : State :=
  let c := s.cutter.chop + distance
  (s.setCutter { s.cutter with chop := c % Config.chopLength }).setLines
    { s.lines with strobes := s.lines.strobes ++ List.replicate (c / Config.chopLength) .bladeChop }

/-- An encoder event counted by a purge (R101). -/
def State.countPurge (s : State) (distance : Nat) : State :=
  match s.web.purge with
  | none => s
  | some p =>
    (s.setWeb { s.web with purge := some { p with moved := min (p.moved + distance) Config.maxDistance } }).chopWeb
      distance

/-- A purge whose distance is covered ends once the queue is empty: the flag is cleared and a pass prompted (R102). -/
def State.purgeEndTest (s : State) : State :=
  match s.web.purge with
  | none => s
  | some p =>
    if p.target ≤ p.moved ∧ s.web.queue.isEmpty = true then
      ((s.setWeb { s.web with purge := none }).setEngine { s.engine with webUnknown := false }).prompt.transportTest
    else s

end Sys2Proof.Machine
end

