-- ==== Sys2Proof/Machine/SchedOps.lean ====
section
/-! DEFINITION. The selection pass of the Frame Scheduler (chapter 3, R48 to R65). -/

namespace Sys2Proof.Machine

open Sys2Proof

/-- A copy that a walk found for the active magazine, with what is handed over for it (R57). -/
structure Choice where
  copy : Copy
  line : Line
  width : Width
  length : Nat
  gap : Nat
deriving DecidableEq, Repr

/-- What ends a walk: a candidate copy, or a pull width (R54, R55). -/
inductive Found where
  | copy (c : Choice)
  | pull (w : Width)
deriving DecidableEq, Repr

/-- The line has a copy to call; from the remake list, an owed copy to call (R48). -/
def State.hasCopy (s : State) (owed : Bool) (slot : Slot) (n : Nat) (l : Line) : Bool :=
  decide (s.expo.callsFor slot n < if owed then l.owed else l.queued)

/-- The line's copy placed on the active magazine (R49). -/
def State.activeChoice (s : State) (slot : Slot) (n : Nat) (l : Line) : Option Choice :=
  (s.lookupSize l.product).bind fun z =>
    if s.mags.paperTest z.width z.length s.frameGap then some ⟨⟨slot, n⟩, l, z.width, z.length, s.frameGap⟩ else none

/-- The line's width where its copy can be placed on standby (R50). -/
def State.standbyWidth (s : State) (l : Line) : Option Width :=
  (s.lineWidth l).bind fun w => if (s.mags.target w).isSome then some w else none

/-- The lines of an order with their line numbers, in line order (section 1.3). -/
def Order.numbered (o : Order) : List (Nat × Line) := o.lines.mapIdx fun i l => (i + 1, l)

/-- The order's first line with a copy to call that can be placed on the active magazine (R54, R55). -/
def State.firstActive (s : State) (owed : Bool) (slot : Slot) (o : Order) : Option Choice :=
  o.numbered.findSome? fun p => if s.hasCopy owed slot p.1 p.2 then s.activeChoice slot p.1 p.2 else none

/-- The width of the order's first line with a copy to call that can be placed on standby (R54, R55). -/
def State.firstStandby (s : State) (owed : Bool) (slot : Slot) (o : Order) : Option Width :=
  o.numbered.findSome? fun p => if s.hasCopy owed slot p.1 p.2 then s.standbyWidth p.2 else none

/-- What the walk of the higher work finds at an order: a copy of the active width, else a pull width (R54). -/
def State.higherLook (owed : Bool) (s : State) (slot : Slot) (o : Order) : Option Found :=
  match s.firstActive owed slot o with
  | some c => some (.copy c)
  | none => (s.firstStandby owed slot o).map .pull

/-- What the first walk of the standard list finds at an order (R55). -/
def State.standardLook (s : State) (slot : Slot) (o : Order) : Option Found :=
  (s.firstActive false slot o).map .copy

/-- What the second walk of the standard list finds at an order (R55). -/
def State.pullLook (s : State) (slot : Slot) (o : Order) : Option Found :=
  (s.firstStandby false slot o).map .pull

/-- The order has a line with a copy to call and a placement (R64). -/
def State.placeable (s : State) (slot : Slot) (o : Order) : Bool :=
  (s.firstActive false slot o).isSome || (s.firstStandby false slot o).isSome

/-- A walk reaches an order: whether it is open (R51), with the bin-wait set moved by the Sorter's answer for a
WAITING order (R64, R65). -/
def State.visit (s : State) (slot : Slot) (o : Order) : State × Bool :=
  if o.held then (s, false)
  else
    match o.state with
    | .printing => (s, !o.bins.isEmpty || o.trayHeld)
    | .waiting =>
      if s.grantTest slot o.cls then (s.leaveBinWait slot, true)
      else if s.placeable slot o then (s.joinBinWait slot o, false)
      else (s, false)
    | .ready | .attention | .cancelling | .cancelled => (s, false)

/-- A walk over a list of orders, ended by the first open order at which `look` finds something (R54, R55). -/
def State.walk (look : State → Slot → Order → Option Found) : List Slot → State → State × Option Found
  | [], s => (s, none)
  | slot :: rest, s =>
    match s.order slot with
    | none => State.walk look rest s
    | some o =>
      let v := s.visit slot o
      if v.2 then
        match look v.1 slot o with
        | some f => (v.1, some f)
        | none => State.walk look rest v.1
      else State.walk look rest v.1

/-- The walk of the higher work: the remake list for owed copies, then the express list for any copy (R54). -/
def State.higherWalk (s : State) : State × Option Found :=
  let r := State.walk (State.higherLook true) s.sched.remake s
  match r.2 with
  | some _ => r
  | none => State.walk (State.higherLook false) r.1.sched.express r.1

/-- The conditions of R57: fewer than 2 calls, and a place kept on the web queue for every call. -/
def State.callRoom (s : State) : Bool :=
  decide (s.expo.calls.length < Config.pipelineCap ∧ s.web.queue.length + s.expo.calls.length < Config.webCap)

/-- The conditions of R52: RUN, no purge in progress, the changeover operation IDLE. -/
def State.passAllowed (s : State) : Bool :=
  s.engine.state == EngineState.run && s.web.purge.isNone && s.mags.change == Changeover.idle

/-- The slice rule: the copy chosen and the slice counter afterwards (R59). -/
def sliceRule (limit slice : Nat) : Option Choice → Option Choice → Option (Choice × Nat)
  | some h, some l =>
    if limit = 0 then some (h, slice) else if 0 < slice then some (h, slice - 1) else some (l, limit)
  | some h, none => some (h, slice)
  | none, some l => some (l, limit)
  | none, none => none

/-- The chosen copy handed on: first, for a WAITING order, the grant (R58); then the call is entered (R57, R73). -/
def State.handOver (s : State) (c : Choice) : State :=
  let s :=
    match s.order c.copy.slot with
    | some o => if o.state = OrderState.waiting then s.grant c.copy.slot o else s
    | none => s
  (s.enterCall c.copy c.line c.width c.length c.gap).prompt

/-- The choice of R56 between the candidates, with whether a copy was chosen. -/
def State.choose (s : State) (h l : Option Choice) : State × Bool :=
  if s.callRoom then
    match sliceRule s.sched.standardSlice s.sched.slice h l with
    | some (c, slice) => ((s.setSched { s.sched with slice := slice }).handOver c, true)
    | none => (s, false)
  else (s, false)

/-- The pass after the walk of the higher work found no pull width: the standard list is walked, a second time for a
pull width when neither candidate was found (R55, R56). -/
def State.standardPart (s : State) (h : Option Choice) : State × Bool :=
  let r := State.walk State.standardLook s.sched.standard s
  match h, r.2 with
  | none, none =>
    let p := State.walk State.pullLook r.1.sched.standard r.1
    match p.2 with
    | some (.pull w) => (p.1.requestChangeover w, false)
    | _ => (p.1, false)
  | _, some (.copy l) => r.1.choose h (some l)
  | _, _ => r.1.choose h none

/-- One selection pass, with whether a copy was chosen (R54 to R59, R61; the paper check R63 comes first). -/
def State.pass (s : State) : State × Bool :=
  let r := s.paperCheck.higherWalk
  match r.2 with
  | some (.pull w) => (r.1.requestChangeover w, false)
  | some (.copy h) => r.1.standardPart (some h)
  | none => r.1.standardPart none

/-- Passes of one event: a further pass follows a choice while the conditions of R52 and R57 hold (R52). `fuel`
bounds them; a pipeline of 2 calls allows no more than 2 choices. -/
def State.passes : Nat → State → State
  | 0, s => s
  | fuel + 1, s =>
    if s.passAllowed then
      let r := s.pass
      if r.2 = true ∧ r.1.callRoom = true then State.passes fuel r.1 else r.1
    else s

end Sys2Proof.Machine
end

