-- ==== Sys2Proof/Machine/ReactOps.lean ====
section
/-! DEFINITION. The frame of every event: what its end brings about in the blocks that its reports called upon
(R53, R76, R40, R116, R94; log entry 5), the transmitters, and the taking of a request (R178, R179). -/

namespace Sys2Proof.Machine

open Sys2Proof

/-! ## The end of an event -/

/-- The test of R76 where it was called for. -/
def State.reactHead (s : State) : State := if s.due.head then s.exposeTest (Config.pipelineCap + 1) else s

/-- The selection passes where an event prompted one (R52, R53). -/
def State.reactPass (s : State) : State := if s.due.pass then s.passes (Config.pipelineCap + 1) else s

/-- The feed cut where the head was reported clear or room was reported (R40, R87). -/
def State.reactCut (s : State) : State := if s.due.head then s.feedCutTest else s

/-- The strip entry or the request for a changeover in RECOVERY (R116). -/
def State.reactStrip (s : State) : State := if s.due.strip then s.stripStep else s

/-- The transport re-evaluated where a condition of R94 may have changed. -/
def State.reactTransport (s : State) : State := if s.due.transport then s.evalTransport else s

/-- The reactions of the end of an event, in sequence (log entry 5). -/
def State.settle (s : State) : State := s.reactHead.reactPass.reactCut.reactStrip.reactCut.reactTransport

/-- The transmitters begin what waits, and the marks are cleared (R180, R70; log entry 9). -/
def State.finish (s : State) : State := (s.startLink.startPort).setDue Due.none

/-- An event of the machine: `f` is its own effect. While the RESET line is asserted no input is taken (R188). -/
def State.event (f : State → State) (s : State) : State :=
  if s.engine.resetAsserted then s else (f (s.setDue Due.none)).settle.finish

/-! ## Requests -/

/-- How the owning block answers a request: refused, with no state changed, or accepted with a new state and the
results its rule states (R179). -/
inductive Verdict where
  | refused (code : RefusalCode)
  | accepted (s : State) (data : List Byte)

/-- The Link Interface may take a frame: the reply list has room, no accepted RESTART waits, the RESET line is not
asserted (R178, R187, R188). -/
def State.mayTake (s : State) : Bool :=
  !s.engine.resetAsserted && !s.restartWaits && decide (s.link.replies.length < Config.replyCap)

/-- The oldest frame of the receive buffer with the state it leaves behind when it is taken (R178). -/
def State.take (s : State) : Option (Frame × State) :=
  match s.link.buffer with
  | [] => none
  | f :: rest =>
    if s.mayTake then some (f, (s.setLink { s.link with buffer := rest }).setDue Due.none) else none

/-- A taken request handled whole, and its reply placed at the end of the event (R178). -/
def State.answer (s : State) (f : Frame) (v : Verdict) : State :=
  match v with
  | .refused code => (s.queueReply ⟨f.tag, f.kind, some code, []⟩).finish
  | .accepted t data => (t.settle.queueReply ⟨f.tag, f.kind, none, data⟩).finish

/-- The event in which the oldest frame is taken and is the request that `row` handles. Where no frame can be taken
or it is another request, the event is not due and nothing changes (log entry 3). -/
def State.request (row : Request → Option (State → Verdict)) (s : State) : State :=
  match s.take with
  | none => s
  | some (f, t) =>
    match (parseRequest f).bind row with
    | none => s
    | some handle => t.answer f (handle t)

/-- The handling of a request that only reports: the results and no change. -/
def reportOnly (data : List Byte) (s : State) : Verdict := .accepted s data

end Sys2Proof.Machine
end

