-- ==== Sys2Proof/Machine/EngineRequests.lean ====
section
/-! DEFINITION. The requests that move the engine, and SILENCE (R184 to R187, R170, R171, R115, R175). -/

namespace Sys2Proof.Machine

open Sys2Proof

/-- The engine state in a reply. -/
def State.engineByte (s : State) : List Byte := b1 s.engine.state.code

/-- The raster miss count set to 0 (R83). -/
def State.clearMiss (s : State) : State := s.setExpo { s.expo with miss := 0 }

/-! ## SILENCE (R175) -/

/-- SILENCE: the mute flag is set and the buzzer stops; the reply carries the driving condition. -/
def handleSilence (s : State) : Verdict :=
  .accepted (s.setStop { s.stop with mute := true }).driveLamp (bo 1 (fun c => b1 c.code) s.stop.driving)

/-! ## ENTER SETUP (R186, R171) -/

/-- A PRINT or INDEX segment, live or void, is on the web queue (R186). -/
def Web.busy (w : Web) : Bool := w.queue.any Segment.isFrame

/-- The number of LIVE PRINT and INDEX segments (R186). -/
def Web.liveSegments (w : Web) : Nat := (w.queue.filter fun g => g.liveCopy.isSome).length

/-- ENTER SETUP from RUN or PAUSED: calls withdrawn and removed, the changeover ended, the purge OFF, the miss count 0,
the engine in SETUP (R186). The changeover's end is reported before the engine leaves RUN or PAUSED, so that the paper
check of R63 runs on it, which is the model's choice (log entry 35). -/
def State.setupFromWork (s : State) : State :=
  let s := ((s.withdraw fun _ => true).dropAwaiting fun _ => true).endChangeover.clearMiss
  (s.setWeb { s.web with purge := none }).enterEngine .setup

/-- ENTER SETUP from HALTED: the causes and the return state cleared and the soak timer cancelled, every live segment
voided as a halt void, the calls removed, the miss count 0, the recovery kind none, the web unknown, the engine in
SETUP (R171, R186, R118). -/
def State.setupFromHalt (s : State) : State :=
  let s := (s.setStop { s.stop with causes := [], ret := none, soak := none }).annunciate
  let s := (s.voidSegments .haltVoid fun _ => true).dropAwaiting fun _ => true
  let s := s.clearMiss.setCutter { s.cutter with recovery := { s.cutter.recovery with kind := .none } }
  (s.setEngine { s.engine with webUnknown := true }).enterEngine .setup

/-- ENTER SETUP (R186). -/
def handleEnterSetup (s : State) : Verdict :=
  match s.engine.state with
  | .setup => .accepted s (b1 0)
  | .recovery => .refused .mode
  | .run => if s.web.busy then .refused .webBusy else .accepted s.setupFromWork (b1 0)
  | .paused => if s.web.busy then .refused .webBusy else .accepted s.setupFromWork (b1 0)
  | .halted => .accepted s.setupFromHalt (b1 s.web.liveSegments)

/-! ## ENTER RUN (R184, R120) -/

/-- The way the engine goes on ENTER RUN, as the Cutter answers (R120). -/
def State.goToWork (s : State) : State :=
  if s.cutter.count = 255 then s.startHalt .cutter .run none
  else if s.cutter.recovery.shortDue then (s.startRecovery .short 8 .run false).enterWorking .recovery
  else s.enterWorking .run

/-- ENTER RUN (R184). -/
def handleEnterRun (s : State) : Verdict :=
  if s.engine.state ≠ .setup then .refused .mode
  else if !s.mags.hasPaper then .refused .noPaper
  else if s.stop.anyJam then .refused .condition
  else if !s.web.stations.consistent then .refused .badValue
  else .accepted s.goToWork s.goToWork.engineByte

/-! ## PAUSE and CONTINUE (R185) -/

/-- PAUSE (R185). -/
def handlePause (s : State) : Verdict :=
  match s.engine.state with
  | .paused => .accepted s (b1 EngineState.paused.code)
  | .run => .accepted ((s.enterEngine .paused).withdraw fun _ => true) (b1 EngineState.paused.code)
  | .setup | .halted | .recovery => .refused .mode

/-- CONTINUE (R185). -/
def handleContinue (s : State) : Verdict :=
  match s.engine.state with
  | .run => .accepted s (b1 EngineState.run.code)
  | .paused => .accepted (s.enterEngine .run) (b1 EngineState.run.code)
  | .setup | .halted | .recovery => .refused .mode

/-! ## RESUME (R170) -/

/-- The halt causes that RESUME leaves in the set (R170). -/
def State.causesAfterResume (s : State) : List HaltCause :=
  s.stop.causes.filter fun c => c == .cutter || (c == .magazine && !s.mags.someLoaded)

/-- The causes removed, with the miss count set to 0 where RASTER was one (R170, R83). -/
def State.clearCauses (s : State) : State :=
  let had := s.stop.causes.contains .raster
  let s := (s.setStop { s.stop with causes := s.causesAfterResume }).annunciate
  if had then s.clearMiss else s

/-- The end of a halt: the return state entered and cleared, the soak timer cancelled, a recovery attempt started
afresh, a purge begun where R100 calls for it (R170, R118; log entry 24). -/
def State.endHalt (s : State) : State :=
  let ret := s.haltReturn
  let s := s.setStop { s.stop with ret := none, soak := none }
  let r := s.cutter.recovery
  let s := if ret = .recovery then s.startRecovery r.kind r.runLength r.ret r.shortDue else s
  s.enterWorking ret

/-- RESUME: the state afterwards. -/
def State.resumed (s : State) : State :=
  let s := s.clearCauses
  if s.stop.causes.isEmpty then s.endHalt else s

/-- RESUME (R170). -/
def handleResume (s : State) : Verdict :=
  if s.engine.state ≠ .halted then .refused .mode
  else if s.stop.anyJam then .refused .condition
  else .accepted s.resumed (b1 (causesCode s.resumed.stop.causes) ++ s.resumed.engineByte)

/-! ## CUTTER RESTART (R115) -/

/-- CUTTER is the only halt cause (R115). -/
def StopControl.cutterAlone (c : StopControl) : Bool := !c.causes.isEmpty && c.causes.all (· == .cutter)

/-- The return state of a recovery begun from a halt: the one Stop Control remembers (R115; log entry 24). -/
def State.restartReturn (s : State) : EngineState :=
  match s.stop.ret with
  | some .paused => .paused
  | some .recovery => s.cutter.recovery.ret
  | some .run => .run
  | some .setup => .run
  | some .halted => .run
  | none => .run

/-- A FULL recovery begun (R115). -/
def State.startFull (s : State) : State :=
  let ret := s.restartReturn
  let s := (s.setCount 127).startRecovery .full 128 ret s.cutter.recovery.shortDue
  let s := (s.setStop { s.stop with causes := [], ret := none }).annunciate
  s.enterEngine .recovery

/-- CUTTER RESTART (R115). -/
def handleCutterRestart (s : State) : Verdict :=
  if s.engine.state ≠ .halted then .refused .mode
  else if !s.stop.cutterAlone || s.stop.anyJam then .refused .condition
  else .accepted s.startFull (b1 s.startFull.cutter.count)

/-! ## The rows -/

/-- SILENCE. -/
def execSilence (s : State) : Host.Outcome State Fault Refusal :=
  .next (s.request fun | .silence => some handleSilence | _ => none)

/-- ENTER_SETUP. -/
def execEnterSetup (s : State) : Host.Outcome State Fault Refusal :=
  .next (s.request fun | .enterSetup => some handleEnterSetup | _ => none)

/-- ENTER_RUN. -/
def execEnterRun (s : State) : Host.Outcome State Fault Refusal :=
  .next (s.request fun | .enterRun => some handleEnterRun | _ => none)

/-- PAUSE. -/
def execPause (s : State) : Host.Outcome State Fault Refusal :=
  .next (s.request fun | .pause => some handlePause | _ => none)

/-- CONTINUE. -/
def execContinueRun (s : State) : Host.Outcome State Fault Refusal :=
  .next (s.request fun | .continueRun => some handleContinue | _ => none)

/-- RESUME. -/
def execResume (s : State) : Host.Outcome State Fault Refusal :=
  .next (s.request fun | .resume => some handleResume | _ => none)

/-- CUTTER_RESTART. -/
def execCutterRestart (s : State) : Host.Outcome State Fault Refusal :=
  .next (s.request fun | .cutterRestart => some handleCutterRestart | _ => none)

/-- RESTART: the reply is queued, and the reset waits until it has been sent (R187). -/
def execRestart (s : State) : Host.Outcome State Fault Refusal :=
  .next (s.request fun | .restart => some (reportOnly []) | _ => none)

end Sys2Proof.Machine
end

