-- ==== Sys2Proof/Machine/LinkEvents.lean ====
section
/-! DEFINITION. The events of the order link and of the resets (R177 to R181, R187, R188). -/

namespace Sys2Proof.Machine

open Sys2Proof

/-! ## Receiving (R177, R178) -/

/-- What the receiver found: a good frame joins the buffer or is answered BUSY, a bad one is answered FRAME ERROR
(R177, R178). -/
def State.takeRx (s : State) : RxEvent → State
  | .bad => s.queueReply frameErrorReply
  | .frame f =>
    if s.link.buffer.length < Config.bufferCap then s.setLink { s.link with buffer := s.link.buffer ++ [f] }
    else s.queueReply ⟨f.tag, f.kind, some .busy, []⟩

/-- One byte received on the order link (R177). -/
def State.receiveByte (s : State) (b : Byte) : State :=
  let r := rxByte s.link.rx b
  let s := s.setLink { s.link with rx := r.1 }
  match r.2 with
  | none => s
  | some e => s.takeRx e

/-- The bytes of a REQUEST_FRAME, in sequence. -/
def State.receive (s : State) (bytes : List Byte) : State := bytes.foldl State.receiveByte s

/-- A frame incomplete for more than 10 ms is discarded with a FRAME ERROR reply (R177). -/
def State.dropPartial (s : State) : State :=
  match s.link.rx with
  | none => s
  | some _ => (s.setLink { s.link with rx := none }).queueReply frameErrorReply

/-! ## Resets (R187, R188) -/

/-- The Order Table after RESTART: every slot free, the counter and REMAKE_LIMIT kept (R1, R25). -/
def OrderTable.restarted (t : OrderTable) : OrderTable := { t with recs := Vector.replicate 64 none }

/-- The Frame Scheduler after RESTART (R45, R46, R60, R64). -/
def Scheduler.restarted (c : Scheduler) : Scheduler :=
  { c with remake := [], express := [], standard := [], slice := c.standardSlice, binWait := [] }

/-- The Magazine Controller after RESTART (R28, R33, R34). -/
def Magazines.restarted (g : Magazines) : Magazines :=
  { g with magA := g.magA.map unthread, magB := g.magB.map unthread, selector := none, change := .idle }

/-- The Exposure Sequencer after RESTART; the send queue keeps a record already begun (R88, R70). -/
def Exposure.restarted (e : Exposure) : Exposure :=
  { e with calls := [], miss := 0, trailing := none, port := e.begun, rx := none }

/-- The Web Tracker after RESTART (R104). -/
def Web.restarted (w : Web) : Web := { w with queue := [], transport := .stopped, purge := none }

/-- The Cutter after RESTART (R106, R111, R112, R114, R118). The chop distance is kept, which is the model's choice (log
entry 22). -/
def Cutter.restarted (c : Cutter) : Cutter :=
  { c with mark := none, check := none, recovery := { c.recovery with kind := .none, shortDue := false } }

/-- The Sorter after RESTART (R143, R141). -/
def Sorter.restarted (t : Sorter) : Sorter :=
  { t with
    bins := t.bins.map Bin.afterReset, tray := t.tray.afterReset, needs := Vector.replicate 64 none,
    transit := [], timer := none }

/-- The Pricing Unit after RESTART (R162). -/
def Pricing.restarted (p : Pricing) : Pricing := { p with latch := Vector.replicate 3 0 }

/-- Stop Control after RESTART (R171). -/
def StopControl.restarted (c : StopControl) : StopControl :=
  { c with causes := [], ret := none, latch := false, soak := none, mute := false }

/-- The drives, the gate and the destination lines released by RESTART (R33, R72, R104, R128, R143). -/
def Lines.restarted (l : Lines) : Lines :=
  { l with
    transportDrive := false, threadA := false, threadB := false, exposeGate := false, sortDrive := false,
    destination := 0 }

/-- The Link Interface after RESTART: STARTED is its only message; the receiver and the buffer are kept (R187). -/
def Link.restarted (l : Link) (started : Notice) : Link :=
  { l with replies := [], notices := [started], lost := false, dropped := 0, sending := .nothing }

/-- Every block at its RESTART values (R187). -/
def State.restarted (s : State) : State :=
  State.annunciate
    { s with
      link := s.link.restarted (.started .restart s.nextSeq s.cutter.count)
      engine := { s.engine with state := .setup, webUnknown := true, resetCause := .restart }
      orders := s.orders.restarted
      sched := s.sched.restarted
      mags := s.mags.restarted
      expo := s.expo.restarted
      web := s.web.restarted
      cutter := s.cutter.restarted
      sorter := s.sorter.restarted
      pricing := s.pricing.restarted
      stop := s.stop.restarted
      lines := s.lines.restarted
      due := { Due.none with link := true } }

/-! ## Sending (R180, R181) -/

/-- NOTICES LOST is queued when the last notice has been sent with the flag set (R181). -/
def State.reportLost (s : State) : State :=
  if s.link.lost = true ∧ s.link.notices = [] then
    (s.setLink { s.link with lost := false, dropped := 0 }).notify (.noticesLost s.link.dropped)
  else s

/-- The transmitter is idle again and may begin the next frame (R180). -/
def State.idleLink (s : State) : State :=
  (s.setLink { s.link with sending := .nothing }).setDue { s.due with link := true }

/-- The oldest reply has been sent and leaves the list; with it an accepted RESTART takes effect (R180, R187). -/
def State.replySent (s : State) : State :=
  match s.link.replies with
  | [] => s.idleLink
  | r :: rest =>
    if r.isRestart then s.restarted else (s.setLink { s.link with replies := rest }).idleLink

/-- The oldest notice has been sent and leaves the queue (R180, R181). -/
def State.noticeSent (s : State) : State :=
  ((s.setLink { s.link with notices := s.link.notices.drop 1 }).idleLink).reportLost

/-- The transmitter has sent the last byte of its frame (R180). -/
def State.frameSent (s : State) : State :=
  match s.link.sending with
  | .nothing => s
  | .reply => s.replySent
  | .notice => s.noticeSent

/-! ## The rows -/

/-- POWER_ON: the power-on values; an asserted RESET line stays asserted (R188; log entry 18). -/
def execPowerOn (s : State) : Host.Outcome State Fault Refusal :=
  let t := s.powerOn .powerOn
  .next (t.setEngine { t.engine with resetAsserted := s.engine.resetAsserted })

/-- RESET_LINE (R188). -/
def execResetLine (s : State) : Host.Outcome State Fault Refusal := .next (s.powerOn .resetLine)

/-- RESET_LINE_ASSERTED: every output is held released, and no input is taken from now on (R188; log entry 18). -/
def execResetLineAsserted (s : State) : Host.Outcome State Fault Refusal :=
  .next ((s.setEngine { s.engine with resetAsserted := true }).setLines Lines.released)

/-- REQUEST_FRAME (R177, R178). -/
def execRequestFrame (bytes : List Byte) (s : State) : Host.Outcome State Fault Refusal :=
  .next (s.event (·.receive bytes))

/-- FRAME_TIMEOUT (R177). -/
def execFrameTimeout (s : State) : Host.Outcome State Fault Refusal := .next (s.event State.dropPartial)

/-- FRAME_SENT (R180). -/
def execFrameSent (s : State) : Host.Outcome State Fault Refusal := .next (s.event State.frameSent)

/-- MALFORMED: the oldest frame is taken and refused when it is no well-formed request (R179). -/
def execMalformed (s : State) : Host.Outcome State Fault Refusal :=
  .next
    (match s.take with
    | none => s
    | some (f, t) =>
      match parseRequest f with
      | some _ => s
      | none => t.answer f (.refused .malformed))

end Sys2Proof.Machine
end

