-- ==== Sys2Proof/Machine/OrderRequests.lean ====
section
/-! DEFINITION. The order requests: ADMIT, CANCEL, HOLD, RELEASE, ACCEPT, QUERY, QUOTE and REPRICE ORDER (chapter 1,
R159, R160). -/

namespace Sys2Proof.Machine

open Sys2Proof

/-- A request that names an order: UNKNOWN where no occupied record carries the number, before any other check
(R21). -/
def withOrder (number : Nat) (handle : Slot → Order → State → Verdict) (s : State) : Verdict :=
  match s.findOrder number with
  | none => .refused .unknown
  | some (slot, o) => handle slot o s

/-! ## ADMIT ORDER (R5 to R8) -/

/-- The value checks of ADMIT ORDER (R6). -/
def AdmitBody.inRange (b : AdmitBody) : Bool :=
  b.number != 0 && decide (b.cls ≤ 1) && decide (b.customer ≤ 15) && decide (b.creditGiven ≤ 1)
    && (b.creditGiven == 0 || decide (b.credit ≤ 1000000)) && decide (b.indexGiven ≤ 1)
    && decide (1 ≤ b.lines.length ∧ b.lines.length ≤ 16) && b.lines.all (fun l => l.qty != 0)

/-- The class of an admitted order (section 10.9). -/
def AdmitBody.orderClass (b : AdmitBody) : OrderClass := if b.cls = 0 then .express else .standard

/-- A line record as admitted, with its queued count at its quantity (R4, R6). -/
def newLine (kind : PrintKind) (product image : Nat) (corr : Rgb Int) (qty : Nat) (clamped : Bool) : Line :=
  ⟨kind, product, image, corr, qty, qty, 0, 0, 0, 0, 0, false, false, clamped, false⟩

/-- A print line, its quantity and corrections clamped (R6). -/
def LineBody.admitted (l : LineBody) : Line :=
  newLine .print l.product l.image (l.corr.map clampDensity) (min l.qty 999)
    (decide (999 < l.qty) || l.corr != l.corr.map clampDensity)

/-- The lines of the order: the print lines, then the index line when an index product was given (R8). -/
def AdmitBody.orderLines (b : AdmitBody) : List Line :=
  b.lines.map LineBody.admitted
    ++ if b.indexGiven = 1 then [newLine .index b.indexProduct b.number ⟨0, 0, 0⟩ 1 false] else []

/-- A line's product is in the size table with the line's kind (R7). -/
def State.productOk (s : State) (l : Line) : Bool := (s.lookupSize l.product).any fun z => z.kind == l.kind

/-- The units of an order (R122). -/
def State.orderUnits (s : State) (ls : List Line) : Nat :=
  (ls.map fun l => l.qty * ((s.lookupSize l.product).map SizeEntry.units).getD 0).sum

/-- The bin need of an order of so many units (R122). -/
def State.binNeed (s : State) (units : Nat) : Nat := (units + s.sorter.binCapacity - 1) / s.sorter.binCapacity

/-- The lowest-numbered free slot (R1). -/
def State.freeSlot (s : State) : Option Slot := slots.find? fun i => (s.order i).isNone

/-- The checks of R5 in sequence, down to the slot of an order that passes them. -/
def State.admitCheck (s : State) (b : AdmitBody) : Except RefusalCode Slot :=
  if s.engine.state = .halted ∨ s.engine.state = .recovery then .error .mode
  else if !b.inRange then .error .badValue
  else
    match s.freeSlot with
    | none => .error .full
    | some slot =>
      if Config.maxSequence ≤ s.orders.seq then .error .full
      else if (s.findOrder b.number).isSome then .error .duplicate
      else if !b.orderLines.all s.productOk then .error .badProduct
      else if 4 < s.binNeed (s.orderUnits b.orderLines)
          ∧ s.sorter.bulkCapacity < s.orderUnits b.orderLines then .error .tooLarge
      else .ok slot

/-- The record of an admitted order (R2, R8). -/
def AdmitBody.record (b : AdmitBody) (bank : SwBank) (bulk : Bool) (seq : Nat) : Order :=
  ⟨b.number, b.orderClass, b.customer, bank, if b.creditGiven = 1 then some b.credit else none, b.orderLines,
    .waiting, false, false, false, false, bulk, [], false, 0, none, seq⟩

/-- The order created in its slot: the record with the next admit sequence number, the need record, the latch count,
the place on its class list (R1, R2, R8, R122, R147), the paper check (R63) and a pass (R53). -/
def State.createOrder (s : State) (slot : Slot) (b : AdmitBody) : State :=
  let need := s.binNeed (s.orderUnits b.orderLines)
  let bank := s.pricing.selected
  let o := b.record bank (decide (4 < need)) (s.orders.seq + 1)
  let s := (s.setOrders { s.orders with seq := s.orders.seq + 1 }).putOrder slot (some o)
  let s := s.setSorter { s.sorter with needs := s.sorter.needs.set slot (some ⟨need, decide (4 < need)⟩) }
  let s := s.setPricing { s.pricing with latch := s.pricing.latch.set bank (s.pricing.latch[bank] + 1) }
  (s.joinClassList slot o.cls).paperCheck.prompt

/-- The results of ADMIT ORDER: slot, admit sequence, bin need, bulk flag, and the clamped flag of each line (R8). -/
def State.admitResults (s : State) (slot : Slot) (b : AdmitBody) : List Byte :=
  let need := s.binNeed (s.orderUnits b.orderLines)
  b1 slot.val ++ b4 (s.orders.seq + 1) ++ b2 need ++ bf (decide (4 < need))
    ++ bl (b.orderLines.map fun l => bf l.clamped)

/-- ADMIT ORDER (R5 to R8). -/
def handleAdmit (b : AdmitBody) (s : State) : Verdict :=
  match s.admitCheck b with
  | .error code => .refused code
  | .ok slot => .accepted (s.createOrder slot b) (s.admitResults slot b)

/-! ## CANCEL ORDER (R16, R17) -/

/-- A line of a cancelled order: queued and on-web copies become cancelled (R17). -/
def Line.cancel (l : Line) : Line :=
  { l with cancelled := l.cancelled + l.queued + l.onWeb, queued := 0, owed := 0, onWeb := 0 }

/-- A call is for a copy of the order in this slot. -/
def Call.ofSlot (slot : Slot) (c : Call) : Bool := c.slot == slot

/-- A segment is of the order in this slot. -/
def Segment.ofSlot (slot : Slot) (g : Segment) : Bool := g.copy.any (·.slot == slot)

/-- The calls of an order withdrawn, abandoned or removed, and its live segments and items voided as cancel voids
(R17, R84, R85, R86, R98, R135). -/
def State.stopOrder (s : State) (slot : Slot) : State :=
  let s := ((s.withdraw (Call.ofSlot slot)).abandon (Call.ofSlot slot)).dropAwaiting (Call.ofSlot slot)
  (s.voidSegments .cancelVoid (Segment.ofSlot slot)).voidItems slot

/-- A PRINTING order stopped, in the sequence of R17. -/
def State.cancelPrinting (s : State) (slot : Slot) (o : Order) : State :=
  let s := s.putOrder slot (some { o with lines := o.lines.map Line.cancel, held := false })
  let s := ((s.leaveClassList slot).leaveRemake slot).stopOrder slot
  let s := s.modifyOrder slot ({ · with state := .cancelling })
  if o.inFlight = 0 then s.endCancelling slot else s

/-- A WAITING order freed at once (R16). -/
def State.cancelWaiting (s : State) (slot : Slot) (o : Order) : State :=
  (((s.leaveClassList slot).leaveBinWait slot).freeRecord slot o).notify (.orderCancelled o.number)

/-- CANCEL ORDER (R16, R17). -/
def handleCancel (slot : Slot) (o : Order) (s : State) : Verdict :=
  match o.state with
  | .waiting => .accepted (s.cancelWaiting slot o) []
  | .printing => .accepted (s.cancelPrinting slot o) []
  | .ready | .attention | .cancelling | .cancelled => .refused .complete

/-! ## HOLD ORDER and RELEASE ORDER (R20) -/

/-- The order is one that can be held or released (R20). -/
def Order.holdable (o : Order) : Bool := o.state == .waiting || o.state == .printing

/-- HOLD ORDER: the flag is set, and the order leaves the bin-wait set (R20, R65). -/
def handleHold (slot : Slot) (o : Order) (s : State) : Verdict :=
  if o.holdable then .accepted ((s.putOrder slot (some { o with held := true })).leaveBinWait slot) []
  else .refused .complete

/-- RELEASE ORDER: a set flag is cleared, and a pass is prompted (R20, R53). -/
def handleRelease (slot : Slot) (o : Order) (s : State) : Verdict :=
  if o.holdable then
    if o.held then .accepted (s.putOrder slot (some { o with held := false })).prompt [] else .accepted s []
  else .refused .complete

/-! ## ACCEPT ORDER (R13) -/

/-- ACCEPT ORDER: an order in ATTENTION without PRICE FAULT goes to READY, and the collected test is made (R13,
R11). -/
def handleAccept (slot : Slot) (o : Order) (s : State) : Verdict :=
  if o.state = .attention ∧ o.priceFault = false then
    .accepted ((s.putOrder slot (some { o with state := .ready, shortReason := false })).annunciate.tryFree slot)
      (b1 OrderState.ready.code)
  else .refused .condition

/-! ## QUERY ORDER (R21) -/

/-- The tally in a reply (section 8.7): the six amounts, SO, FLOOR, UNPRICED and the committed flag. -/
def Tally.bytes (t : Tally) : List Byte :=
  b4 t.gross ++ b4 t.discount ++ b4 t.net ++ b4 t.tax ++ b4 t.creditApplied ++ b4 t.total ++ bf t.so ++ bf t.floored
    ++ bf t.unpriced ++ bf true

/-- The attention reasons, absent outside ATTENTION (section 1.2). -/
def Order.reasons (o : Order) : Option Nat :=
  if o.state = .attention then some (reasonsCode o.priceFault o.shortReason) else none

/-- A line record in a reply (section 1.3). -/
def Line.bytes (l : Line) : List Byte :=
  b1 l.kind.code ++ b2 l.product ++ b4 l.image ++ i1 l.corr.r ++ i1 l.corr.g ++ i1 l.corr.b ++ b2 l.qty
    ++ b2 l.queued ++ b2 l.owed ++ b2 l.onWeb ++ b2 l.delivered ++ b2 l.cancelled ++ b1 l.remakesUsed ++ bf l.short
    ++ bf l.limited ++ bf l.clamped

/-- The record of an order in a reply, with the lines as its last list (R21, section 1.2). -/
def orderParts (slot : Slot) (o : Order) : List Part :=
  [.full (b2 o.number ++ b1 o.cls.code ++ b1 o.customer ++ b1 (o.bank.val + 1) ++ bo 4 b4 o.credit
      ++ b1 o.state.code ++ bo 1 b1 o.reasons ++ bf o.held ++ bf o.disturbed ++ bf o.bulk),
   .list (o.bins.map fun e => b1 (e.bin.val + 1) ++ b1 e.pos),
   .full (bf o.trayHeld ++ b2 o.inFlight ++ bo 28 Tally.bytes o.tally ++ b4 o.seq ++ b1 slot.val),
   .list (o.lines.map Line.bytes)]

/-- As many entries as a page holds. -/
def allEntries : Nat := 256

/-- QUERY ORDER (R21). -/
def handleQueryOrder (first : Nat) (slot : Slot) (o : Order) (s : State) : Verdict :=
  reportOnly (page first allEntries (orderParts slot o)) s

/-! ## QUOTE ORDER and REPRICE ORDER (R159, R160) -/

/-- The figures of a line in a reply (R159). The mode and the tax category of an unpriced line are absent, each behind a
presence byte of its own, which is the model's choice (log entry 44). -/
def LineFigures.bytes (l : LineFigures) : List Byte :=
  b2 l.q ++ bf l.entry.isNone ++ bo 1 (fun e => b1 e.mode.code) l.entry ++ b4 l.gross
    ++ bo 1 (fun i => b1 i.val) l.promotion ++ b4 l.discount ++ b4 l.net ++ bo 1 (fun e => b1 e.tax.val) l.entry

/-- The figures of an order in a reply (R159). The four nets stand before the four taxes, as plain fields, which is the
model's choice (log entry 45). -/
def OrderFigures.bytes (f : OrderFigures) : List Byte :=
  (f.catNet.map b4).flatten ++ (f.catTax.map b4).flatten ++ b4 f.gross ++ b4 f.discount ++ b4 f.net ++ b4 f.tax
    ++ b4 f.creditApplied ++ b4 f.total ++ bf f.ov ++ bf f.floored ++ bf f.unpriced

/-- The line figures and the order figures (R159). -/
def OrderFigures.parts (f : OrderFigures) : List Part := [.list (f.lines.map LineFigures.bytes), .full f.bytes]

/-- The quantity a quote prices (R152). -/
def Line.quoted (l : Line) : Nat := l.qty - l.cancelled

/-- QUOTE ORDER (R159). -/
def handleQuote (first : Nat) (_slot : Slot) (o : Order) (s : State) : Verdict :=
  if o.state = .cancelling ∨ o.state = .cancelled then .refused .complete
  else reportOnly (page first allEntries (s.pricing.compute o Line.quoted).parts) s

/-- The order after a reprice with this tally: READY when no reason is left (R160, R12). -/
def Order.repriced (o : Order) (t : Tally) : Order :=
  { o with
    tally := some t
    priceFault := t.fault
    state := if t.fault || o.shortReason then .attention else .ready }

/-- REPRICE ORDER (R160, R12). Its line list has no full-length byte, which R191 gives to the four queries alone. The
quote's indications OV, FLOOR and UNPRICED stand behind its figures, beside the tally's own, which is the model's choice
(log entry 53). -/
def handleReprice (slot : Slot) (o : Order) (s : State) : Verdict :=
  if o.state = .attention then
    let figures := s.pricing.compute o Line.delivered
    let o' := o.repriced figures.tally
    let s := (s.putOrder slot (some o')).annunciate
    let s := if o'.state = .ready then (s.notify (o'.completionNotice slot)).tryFree slot else s
    .accepted s (page 0 allEntries [.counted (figures.lines.map LineFigures.bytes),
      .full (figures.bytes ++ figures.tally.bytes ++ bo 1 b1 o'.reasons)])
  else .refused .condition

/-! ## The rows -/

/-- ADMIT_ORDER. -/
def execAdmitOrder (s : State) : Host.Outcome State Fault Refusal :=
  .next (s.request fun | .admitOrder b => some (handleAdmit b) | _ => none)

/-- CANCEL_ORDER. -/
def execCancelOrder (s : State) : Host.Outcome State Fault Refusal :=
  .next (s.request fun | .cancelOrder n => some (withOrder n handleCancel) | _ => none)

/-- HOLD_ORDER. -/
def execHoldOrder (s : State) : Host.Outcome State Fault Refusal :=
  .next (s.request fun | .holdOrder n => some (withOrder n handleHold) | _ => none)

/-- RELEASE_ORDER. -/
def execReleaseOrder (s : State) : Host.Outcome State Fault Refusal :=
  .next (s.request fun | .releaseOrder n => some (withOrder n handleRelease) | _ => none)

/-- ACCEPT_ORDER. -/
def execAcceptOrder (s : State) : Host.Outcome State Fault Refusal :=
  .next (s.request fun | .acceptOrder n => some (withOrder n handleAccept) | _ => none)

/-- QUERY_ORDER. -/
def execQueryOrder (s : State) : Host.Outcome State Fault Refusal :=
  .next (s.request fun | .queryOrder n first => some (withOrder n (handleQueryOrder first)) | _ => none)

/-- QUOTE_ORDER. -/
def execQuoteOrder (s : State) : Host.Outcome State Fault Refusal :=
  .next (s.request fun | .quoteOrder n first => some (withOrder n (handleQuote first)) | _ => none)

/-- REPRICE_ORDER. -/
def execRepriceOrder (s : State) : Host.Outcome State Fault Refusal :=
  .next (s.request fun | .repriceOrder n => some (withOrder n handleReprice) | _ => none)

end Sys2Proof.Machine
end

