-- ==== Sys2Proof/Machine/TableRequests.lean ====
section
/-! DEFINITION. The requests that write tables and limits: sizes, magazines, drift, stations, limits, fault count,
price book, promotions, tax rates, selected bank and patterns (R29, R31, R32, R34, R92, R182, R119, R145 to R151,
R174). -/

namespace Sys2Proof.Machine

open Sys2Proof

/-! ## Size table (R29) -/

/-- A full size entry read from its body, when every field is in range (R29 check 1). -/
def SizeBody.entry (b : SizeBody) : Option SizeEntry :=
  match widthOfMm b.width with
  | none => none
  | some w =>
    if b.product ≤ 4095 ∧ b.kind ≤ 1 ∧ 500 ≤ b.length ∧ b.length ≤ 4500 ∧ 1 ≤ b.units ∧ b.units ≤ 10 then
      some ⟨b.product, if b.kind = 0 then .print else .index, w, b.length, b.units⟩
    else none

/-- A product code is in use: a line of an occupied order record carries it (R28). -/
def State.productInUse (s : State) (product : Nat) : Bool :=
  slots.any fun i => (s.order i).any fun o => o.lines.any fun l => l.product == product

/-- The index holds an entry whose code is in use (R29 check 2). -/
def State.sizeFrozen (s : State) (ix : Fin 32) : Bool := (s.mags.sizes[ix]).any fun z => s.productInUse z.product

/-- The code is held at another index (R29 check 3). -/
def State.sizeElsewhere (s : State) (ix : Fin 32) (product : Nat) : Bool :=
  (List.finRange 32).any fun j => j != ix && (s.mags.sizes[j]).any fun z => z.product == product

/-- A size entry in a reply (section 2.1). -/
def SizeEntry.bytes (z : SizeEntry) : List Byte :=
  b2 z.product ++ b1 z.kind.code ++ b2 z.width.mm ++ b2 z.length ++ b2 z.units

/-- The index written (R29). -/
def State.putSize (s : State) (ix : Fin 32) (z : Option SizeEntry) : State :=
  s.setMags { s.mags with sizes := s.mags.sizes.set ix z }

/-- The checks of R29 from the second on, and the write. -/
def writeSize (ix : Fin 32) (z : Option SizeEntry) (s : State) : Verdict :=
  if s.sizeFrozen ix then .refused .inUse
  else if z.any fun e => s.sizeElsewhere ix e.product then .refused .duplicate
  else .accepted (s.putSize ix z) (b1 ix.val ++ bo 9 SizeEntry.bytes z)

/-- SET SIZE (R29). -/
def handleSetSize (index : Nat) (entry : Option SizeBody) (s : State) : Verdict :=
  if s.engine.state ≠ .setup then .refused .mode
  else if h : index < 32 then
    match entry with
    | none => writeSize ⟨index, h⟩ none s
    | some b =>
      match b.entry with
      | none => .refused .badValue
      | some z => writeSize ⟨index, h⟩ (some z) s
  else .refused .badValue

/-! ## Magazines (R31, R32) and drift (R34) -/

/-- The engine-state test of LOAD and UNLOAD MAGAZINE (R31). -/
def State.magazineState (s : State) : Bool := s.engine.state != .halted || s.stop.causes.contains .magazine

/-- A, B (R190). -/
def magOfCode : Nat → Option MagId
  | 0 => some .a
  | 1 => some .b
  | _ => none

/-- The magazine is the target of a changeover that has not completed (R31). -/
def Changeover.targets (c : Changeover) (m : MagId) : Bool :=
  match c with
  | .idle => false
  | .pending t _ => t == m
  | .threading t _ => t == m

/-- The magazine may not be loaded or unloaded: ACTIVE, or the target of a changeover (R31, R32). -/
def Magazines.busy (g : Magazines) (m : MagId) : Bool :=
  ((g.get m).any fun r => r.state == .active) || g.change.targets m

/-- A density value in its range (section 0.5). -/
def densityOk (z : Int) : Bool := decide (-50 ≤ z ∧ z ≤ 50)

/-- A base time in its range (R31). -/
def baseOk (n : Nat) : Bool := decide (20 ≤ n ∧ n ≤ 5000)

/-- The value checks of LOAD MAGAZINE besides the magazine and the width (R31). -/
def LoadBody.inRange (b : LoadBody) : Bool :=
  b.remaining != 0 && b.low.all (fun t => decide (t ≤ Config.maxRoll)) && b.base.toList.all baseOk
    && b.offset.toList.all densityOk

/-- The record that LOAD MAGAZINE writes (R31). -/
def LoadBody.record (b : LoadBody) (w : Width) : MagRec :=
  ⟨.loaded, w, min b.remaining Config.maxRoll, b.low.getD Config.defaultLow, false, b.base, b.offset⟩

/-- A magazine record in a reply (section 2.3); ABSENT is reported with its fields zero. -/
def magBytes : Option MagRec → List Byte
  | none => List.replicate 21 0
  | some r =>
    b1 r.state.code ++ b2 r.width.mm ++ b4 r.remaining ++ b4 r.low ++ bf r.lowReported ++ b2 r.base.r ++ b2 r.base.g
      ++ b2 r.base.b ++ i1 r.offset.r ++ i1 r.offset.g ++ i1 r.offset.b

/-- A magazine's record written whole; a selector that named it is set to none (R31, R32). The paper is reported to have
changed (R30), also where a LOADED magazine is loaded again with the same width, which is the model's choice (log entry
51). -/
def State.replaceMag (s : State) (m : MagId) (r : Option MagRec) : State :=
  let g := s.mags.put m r
  ((s.setMags { g with selector := if g.selector = some m then none else g.selector }).paperChanged).annunciate

/-- LOAD MAGAZINE (R31). -/
def handleLoad (b : LoadBody) (s : State) : Verdict :=
  if !s.magazineState then .refused .mode
  else
    match magOfCode b.mag, widthOfMm b.width with
    | some m, some w =>
      if !b.inRange then .refused .badValue
      else if s.mags.busy m then .refused .inUse
      else .accepted (s.replaceMag m (some (b.record w)))
        (bf (decide (Config.maxRoll < b.remaining)) ++ magBytes (some (b.record w)))
    | _, _ => .refused .badValue

/-- UNLOAD MAGAZINE (R32). -/
def handleUnload (mag : Nat) (s : State) : Verdict :=
  if !s.magazineState then .refused .mode
  else
    match magOfCode mag with
    | none => .refused .badValue
    | some m =>
      if s.mags.busy m then .refused .inUse
      else if (s.mags.get m).isNone then .accepted s []
      else .accepted (s.replaceMag m none) []

/-- SET DRIFT (R34). -/
def handleSetDrift (drift : Rgb Int) (s : State) : Verdict :=
  if drift.toList.all densityOk then .accepted (s.setMags { s.mags with drift := drift }) [] else .refused .badValue

/-! ## Stations (R92) -/

/-- The entries of a list of named values name each of `names` at most once and no other (R92, R182). -/
def namedOnce (names : List Nat) (entries : List (Nat × Nat)) : Bool :=
  entries.all (fun e => names.contains e.1) && decide ((entries.map Prod.fst).Nodup)

/-- One station moved: P_IN, P_OUT, DRY_POS, CUT_POS by code. -/
def Stations.move (g : Stations) (e : Nat × Nat) : Stations :=
  match e.1 with
  | 0 => { g with pIn := e.2 }
  | 1 => { g with pOut := e.2 }
  | 2 => { g with dry := e.2 }
  | 3 => { g with cut := e.2 }
  | _ => g

/-- The stations in a reply, with whether they are consistent (R92). The four positions are plain fields, which is the
model's choice (log entry 45). -/
def Stations.bytes (g : Stations) : List Byte := b4 g.pIn ++ b4 g.pOut ++ b4 g.dry ++ b4 g.cut ++ bf g.consistent

/-- SET STATIONS (R92). MODE is tested before BAD VALUE, which is the model's choice (log entry 48). -/
def handleSetStations (entries : List (Nat × Nat)) (s : State) : Verdict :=
  if s.engine.state ≠ .setup then .refused .mode
  else if namedOnce [0, 1, 2, 3] entries && entries.all (fun e => decide (1 ≤ e.2 ∧ e.2 ≤ 150000)) then
    let g := entries.foldl Stations.move s.web.stations
    .accepted (s.setWeb { s.web with stations := g }) g.bytes
  else .refused .badValue

/-! ## Limits (R182) -/

/-- The range of each limit by its code (section 10.4). -/
def limitRange : Nat → Option (Nat × Nat)
  | 1 => some (0, 15)
  | 2 => some (0, 8)
  | 3 => some (20, 250)
  | 4 => some (100, 1000)
  | 5 => some (0, 15)
  | 6 => some (10, 600)
  | 7 => some (1, 255)
  | 8 => some (100, 10000)
  | 9 => some (10, 100)
  | 10 => some (5, 50)
  | _ => none

/-- The value lies in its limit's range (R182 check 2). -/
def limitOk (e : Nat × Nat) : Bool := (limitRange e.1).any fun r => decide (r.1 ≤ e.2 ∧ e.2 ≤ r.2)

/-- The limit is written in RUN and PAUSED too: STANDARD_SLICE, EXPRESS_RESERVE (R182 check 3). -/
def limitRunning (e : Nat × Nat) : Bool := e.1 == 1 || e.1 == 2

/-- The ten limits in the sequence of section 10.4. -/
def State.limits (s : State) : List Nat :=
  [s.sched.standardSlice, s.sorter.expressReserve, s.sorter.binCapacity, s.sorter.bulkCapacity,
   s.orders.remakeLimit, s.stop.soakLimit, s.cutter.warningLimit, s.expo.readyTimeout, s.expo.gap,
   s.cutter.markWindow]

/-- The ten limits in a reply. -/
def State.limitBytes (s : State) : List Byte := (s.limits.map b4).flatten

/-- One limit written, with its owner's rule: S is reloaded with STANDARD_SLICE, and a pass is prompted where
EXPRESS_RESERVE or STANDARD_SLICE is carried (R182, R60, R127). -/
def State.setLimit (s : State) (e : Nat × Nat) : State :=
  match e.1 with
  | 1 => (s.setSched { s.sched with standardSlice := e.2, slice := e.2 }).prompt
  | 2 => (s.setSorter { s.sorter with expressReserve := e.2 }).prompt
  | 3 => s.setSorter { s.sorter with binCapacity := e.2 }
  | 4 => s.setSorter { s.sorter with bulkCapacity := e.2 }
  | 5 => s.setOrders { s.orders with remakeLimit := e.2 }
  | 6 => s.setStop { s.stop with soakLimit := e.2 }
  | 7 => s.setCutter { s.cutter with warningLimit := e.2 }
  | 8 => s.setExpo { s.expo with readyTimeout := e.2 }
  | 9 => s.setExpo { s.expo with gap := e.2 }
  | 10 => s.setCutter { s.cutter with markWindow := e.2 }
  | _ => s

/-- SET LIMITS (R182). -/
def handleSetLimits (entries : List (Nat × Nat)) (s : State) : Verdict :=
  if s.engine.state = .halted ∨ s.engine.state = .recovery then .refused .mode
  else if entries.isEmpty || decide (10 < entries.length) || !decide ((entries.map Prod.fst).Nodup)
      || !entries.all limitOk then .refused .badValue
  else if s.engine.state ≠ .setup ∧ entries.all limitRunning = false then .refused .mode
  else if entries.any fun e => e.1 == 2 && decide (24 < s.standardOwned + e.2) then .refused .condition
  else
    let s := entries.foldl State.setLimit s
    .accepted s s.limitBytes

/-! ## Fault count (R119) -/

/-- Short recovery due after the count is written (R119). -/
def shortDueAfter (old value : Nat) (due : Bool) : Bool :=
  if value = 255 then false else if old = 255 then true else due

/-- MARKED, BLIND (R112). -/
def modeCode (blind : Bool) : Nat := if blind then 1 else 0

/-- SET FAULT COUNT (R119). -/
def handleSetFaultCount (value : Nat) (s : State) : Verdict :=
  if s.engine.state ≠ .setup then .refused .mode
  else if 255 < value then .refused .badValue
  else
    let old := s.cutter.count
    let s := s.setCount value
    let r := { s.cutter.recovery with shortDue := shortDueAfter old value s.cutter.recovery.shortDue }
    let s := s.setCutter { s.cutter with recovery := r }
    .accepted s (b1 s.cutter.count ++ b1 (modeCode s.cutter.blind) ++ bf s.cutter.recovery.shortDue)

/-! ## Price book (R145, R146) -/

/-- The ending quantities lie in 1..9999 and rise strictly from `below`, and the prices are in range (R145). -/
def tiersOk (below : Nat) : List Tier → Bool
  | [] => true
  | t :: ts => decide (below < t.ending ∧ t.ending ≤ 9999 ∧ t.price ≤ 999999) && tiersOk t.ending ts

/-- A price entry read from its body, when every field is in range (R145 check 2). -/
def PriceBody.entry (b : PriceBody) : Option PriceEntry :=
  if h : b.tax < 4 then
    if b.product ≤ 4095 ∧ b.mode ≤ 1 ∧ 1 ≤ b.tiers.length ∧ b.tiers.length ≤ 4 ∧ tiersOk 0 b.tiers = true then
      some ⟨b.product, if b.mode = 0 then .graduated else .block, b.tiers, ⟨b.tax, h⟩⟩
    else none
  else none

/-- A bank is in use: the common bank, the selected bank, or one with a latch count above 0 (R147). -/
def Pricing.inUse (p : Pricing) (bank : BankIx) : Bool :=
  bank == 0 || bank == p.selected.succ
    || (List.finRange 3).any fun k => bank == k.succ && decide (0 < p.latch[k])

/-- The bank is protected: in RUN and PAUSED, and in use (R145 check 3, R147). -/
def State.bankProtected (s : State) (bank : BankIx) : Bool :=
  (s.engine.state == .run || s.engine.state == .paused) && s.pricing.inUse bank

/-- A bank holds the code at an index other than `skip`. -/
def Pricing.holds (p : Pricing) (bank : BankIx) (product : Nat) (skip : Option (Fin 32)) : Bool :=
  (List.finRange 32).any fun j => skip != some j && (p.book[bank][j]).any fun e => e.product == product

/-- The code is a duplicate for this bank and index (R145 check 4, R144). -/
def Pricing.duplicate (p : Pricing) (bank : BankIx) (ix : Fin 32) (product : Nat) : Bool :=
  p.holds bank product (some ix)
    || (if bank = 0 then (List.finRange 3).any fun k => p.holds k.succ product none else p.holds 0 product none)

/-- The engine states in which the book is not written (R145 check 1). -/
def State.bookClosed (s : State) : Bool := s.engine.state == .halted || s.engine.state == .recovery

/-- An index of a bank written (R145, R146). -/
def State.putPrice (s : State) (bank : BankIx) (ix : Fin 32) (e : Option PriceEntry) : State :=
  s.setPricing { s.pricing with book := s.pricing.book.set bank (s.pricing.book[bank].set ix e) }

/-- A price entry in a reply (section 8.1). Its tier list has the count of R190 alone, in the paged PRICING reply too
(log entry 41). -/
def PriceEntry.bytes (e : PriceEntry) : List Byte :=
  b2 e.product ++ b1 e.mode.code ++ bl (e.tiers.map fun t => b2 t.ending ++ b4 t.price) ++ b1 e.tax.val

/-- SET PRICE (R145). -/
def handleSetPrice (bank index : Nat) (b : PriceBody) (s : State) : Verdict :=
  if s.bookClosed then .refused .mode
  else if hb : bank < 4 then
    if hi : index < 32 then
      match b.entry with
      | none => .refused .badValue
      | some e =>
        if s.bankProtected ⟨bank, hb⟩ then .refused .bankInUse
        else if s.pricing.duplicate ⟨bank, hb⟩ ⟨index, hi⟩ e.product then .refused .duplicate
        else .accepted (s.putPrice ⟨bank, hb⟩ ⟨index, hi⟩ (some e)) (b1 bank ++ b1 index ++ e.bytes)
    else .refused .badValue
  else .refused .badValue

/-- CLEAR PRICE (R146). The refusal with BAD VALUE stands between checks 1 and 3 of R145, as in SET PRICE, which is the
model's choice (log entry 43). -/
def handleClearPrice (bank index : Nat) (s : State) : Verdict :=
  if s.bookClosed then .refused .mode
  else if hb : bank < 4 then
    if hi : index < 32 then
      if s.bankProtected ⟨bank, hb⟩ then .refused .bankInUse
      else .accepted (s.putPrice ⟨bank, hb⟩ ⟨index, hi⟩ none) (b1 bank ++ b1 index)
    else .refused .badValue
  else .refused .badValue

/-! ## Promotions (R149) -/

/-- A code and mask pair, when both are in range (R149). -/
def codeMask (code mask : Nat) : Option CodeMask :=
  if code ≤ 4095 ∧ mask ≤ 4095 then some ⟨BitVec.ofNat 12 code, BitVec.ofNat 12 mask⟩ else none

/-- The kind of a promotion with its parameters, when they are in range (R149). -/
def PromoBody.discount (b : PromoBody) : Option Discount :=
  match b.kind with
  | 0 => if b.p ≤ 10000 then some (.percent b.p) else none
  | 1 => if b.a ≤ 999999 then some (.perPrint b.a) else none
  | 2 => if 2 ≤ b.n ∧ b.n ≤ 20 ∧ 1 ≤ b.m ∧ b.m + 1 ≤ b.n then some (.bundle b.n b.m) else none
  | _ => none

/-- The second pair: none for SINGLE, a pair for DUAL (R149). -/
def PromoBody.second (b : PromoBody) : Option (Option CodeMask) :=
  match b.matchMode with
  | 0 => some none
  | 1 => (codeMask b.code2 b.mask2).map some
  | _ => none

/-- A full promotion entry read from its body, when every field is in range (R149; log entry 15). -/
def PromoBody.entry (b : PromoBody) : Option Promotion :=
  match codeMask b.code1 b.mask1, b.second, b.discount with
  | some first, some second, some kind => some ⟨b.active, first, second, b.classes, kind⟩
  | _, _, _ => none

/-- PERCENT, PER PRINT, BUNDLE (section 8.3). -/
def Discount.code : Discount → Nat
  | .percent _ => 0
  | .perPrint _ => 1
  | .bundle _ _ => 2

/-- The parameters of a kind in a reply, each with its presence byte: p, a, n, m (section 8.3). -/
def Discount.bytes : Discount → List Byte
  | .percent p => bo 2 b2 (some p) ++ bo 4 b4 none ++ bo 1 b1 none ++ bo 1 b1 none
  | .perPrint a => bo 2 b2 none ++ bo 4 b4 (some a) ++ bo 1 b1 none ++ bo 1 b1 none
  | .bundle n m => bo 2 b2 none ++ bo 4 b4 none ++ bo 1 b1 (some n) ++ bo 1 b1 (some m)

/-- A promotion entry in a reply (section 8.3). -/
def Promotion.bytes (p : Promotion) : List Byte :=
  bf p.active ++ bf p.second.isSome ++ b2 p.first.code.toNat ++ b2 p.first.mask.toNat
    ++ bo 2 b2 (p.second.map fun c => c.code.toNat) ++ bo 2 b2 (p.second.map fun c => c.mask.toNat)
    ++ b2 p.classes.toNat ++ b1 p.kind.code ++ p.kind.bytes

/-- A promotion index in a reply: the presence byte and the entry, or zeros for the empty form (R190). -/
def promotionBytes (p : Option Promotion) : List Byte := bo 27 Promotion.bytes p

/-- A promotion index written (R149). -/
def State.putPromotion (s : State) (ix : Fin 16) (p : Option Promotion) : State :=
  s.setPricing { s.pricing with promotions := s.pricing.promotions.set ix p }

/-- SET PROMOTION (R149). -/
def handleSetPromotion (index : Nat) (entry : Option PromoBody) (s : State) : Verdict :=
  if h : index < 16 then
    match entry with
    | none => .accepted (s.putPromotion ⟨index, h⟩ none) (promotionBytes none)
    | some b =>
      match b.entry with
      | none => .refused .badValue
      | some p => .accepted (s.putPromotion ⟨index, h⟩ (some p)) (promotionBytes (some p))
  else .refused .badValue

/-! ## Tax rates and selected bank (R151, R148) -/

/-- SET TAX (R151). MODE is tested before BAD VALUE, which is the model's choice (log entry 48). -/
def handleSetTax (category rate : Nat) (s : State) : Verdict :=
  if s.engine.state ≠ .setup then .refused .mode
  else if h : category < 4 then
    if rate ≤ 10000 then .accepted (s.setPricing { s.pricing with tax := s.pricing.tax.set category rate }) (b2 rate)
    else .refused .badValue
  else .refused .badValue

/-- SELECT BANK: the byte is the bank's number 1..3 (R148, R189). -/
def handleSelectBank (bank : Nat) (s : State) : Verdict :=
  if h : 1 ≤ bank ∧ bank ≤ 3 then
    .accepted (s.setPricing { s.pricing with selected := ⟨bank - 1, by omega⟩ }) (b1 bank)
  else .refused .badValue

/-! ## Patterns (R174) -/

/-- A condition by its code (R172). -/
def conditionOfCode : Nat → Option Condition
  | 0 => some .jam
  | 1 => some .cutterHalt
  | 2 => some .rasterMagazineHalt
  | 3 => some .binWait
  | 4 => some .expressReady
  | 5 => some .paperLow
  | _ => none

/-- A pattern of a set of rates: bit 0 is 1 Hz, bit 3 is 8 Hz (R190, R173). -/
def patternOf (rates : Nat) (buzzer : Bool) : Pattern :=
  ⟨rates.testBit 0, rates.testBit 1, rates.testBit 2, rates.testBit 3, buzzer⟩

/-- A pattern in a reply: the set of rates and the buzzer flag (R174). -/
def Pattern.bytes (p : Pattern) : List Byte :=
  b1 ((if p.hz1 then 1 else 0) + (if p.hz2 then 2 else 0) + (if p.hz4 then 4 else 0) + (if p.hz8 then 8 else 0))
    ++ bf p.buzzer

/-- A pattern written; when its condition drives, the envelopes restart and the outputs follow (R174, R172). -/
def State.putPattern (s : State) (c : Condition) (p : Pattern) : State :=
  let s := s.setStop { s.stop with patterns := s.stop.patterns.set c.ix p }
  if s.stop.driving = some c then (s.setStop { s.stop with phase := 0 }).driveLamp else s

/-- SET PATTERN (R174). MODE is tested before BAD VALUE, which is the model's choice (log entry 48). -/
def handleSetPattern (condition rates : Nat) (buzzer : Bool) (s : State) : Verdict :=
  if s.engine.state ≠ .setup then .refused .mode
  else
    match conditionOfCode condition with
    | none => .refused .badValue
    | some c =>
      if 16 ≤ rates then .refused .badValue
      else .accepted (s.putPattern c (patternOf rates buzzer)) (patternOf rates buzzer).bytes

/-! ## The rows -/

/-- SET_SIZE. -/
def execSetSize (s : State) : Host.Outcome State Fault Refusal :=
  .next (s.request fun | .setSize i e => some (handleSetSize i e) | _ => none)

/-- LOAD_MAGAZINE. -/
def execLoadMagazine (s : State) : Host.Outcome State Fault Refusal :=
  .next (s.request fun | .loadMagazine b => some (handleLoad b) | _ => none)

/-- UNLOAD_MAGAZINE. -/
def execUnloadMagazine (s : State) : Host.Outcome State Fault Refusal :=
  .next (s.request fun | .unloadMagazine m => some (handleUnload m) | _ => none)

/-- SET_DRIFT. -/
def execSetDrift (s : State) : Host.Outcome State Fault Refusal :=
  .next (s.request fun | .setDrift d => some (handleSetDrift d) | _ => none)

/-- SET_STATIONS. -/
def execSetStations (s : State) : Host.Outcome State Fault Refusal :=
  .next (s.request fun | .setStations es => some (handleSetStations es) | _ => none)

/-- SET_LIMITS. -/
def execSetLimits (s : State) : Host.Outcome State Fault Refusal :=
  .next (s.request fun | .setLimits es => some (handleSetLimits es) | _ => none)

/-- SET_FAULT_COUNT. -/
def execSetFaultCount (s : State) : Host.Outcome State Fault Refusal :=
  .next (s.request fun | .setFaultCount v => some (handleSetFaultCount v) | _ => none)

/-- SET_PRICE. -/
def execSetPrice (s : State) : Host.Outcome State Fault Refusal :=
  .next (s.request fun | .setPrice b i e => some (handleSetPrice b i e) | _ => none)

/-- CLEAR_PRICE. -/
def execClearPrice (s : State) : Host.Outcome State Fault Refusal :=
  .next (s.request fun | .clearPrice b i => some (handleClearPrice b i) | _ => none)

/-- SET_PROMOTION. -/
def execSetPromotion (s : State) : Host.Outcome State Fault Refusal :=
  .next (s.request fun | .setPromotion i e => some (handleSetPromotion i e) | _ => none)

/-- SET_TAX. -/
def execSetTax (s : State) : Host.Outcome State Fault Refusal :=
  .next (s.request fun | .setTax c r => some (handleSetTax c r) | _ => none)

/-- SELECT_BANK. -/
def execSelectBank (s : State) : Host.Outcome State Fault Refusal :=
  .next (s.request fun | .selectBank b => some (handleSelectBank b) | _ => none)

/-- SET_PATTERN. -/
def execSetPattern (s : State) : Host.Outcome State Fault Refusal :=
  .next (s.request fun | .setPattern c r b => some (handleSetPattern c r b) | _ => none)

end Sys2Proof.Machine
end

