-- ==== Sys2Proof/Machine/QueryRequests.lean ====
section
/-! DEFINITION. QUERY BINS and QUERY STATUS with the contents of their replies (R142, R189, R44, R47, R89, R105, R121,
R161, R176; log entries 12 and 13). -/

namespace Sys2Proof.Machine

open Sys2Proof

/-- The order number in a slot, or 0 where the slot is free, which is the model's choice (log entry 38). -/
def State.numberIn (s : State) (slot : Slot) : Nat := ((s.order slot).map Order.number).getD 0

/-- LIVE, VOID. -/
def statusCode (void : Option VoidCause) : Nat := if void.isSome then 1 else 0

/-! ## QUERY BINS (R142) -/

/-- A bin or the tray in a reply (section 7.2, R142). The order number and the slot of the owner have a presence byte
each (log entry 44). -/
def State.binBytes (s : State) (b : Bin) : List Byte :=
  b1 b.state.code ++ bo 2 (fun i => b2 (s.numberIn i)) b.owner ++ bo 1 (fun i => b1 i.val) b.owner ++ bo 1 b1 b.pos
    ++ b2 b.used ++ b2 b.routed ++ bf b.occupied

/-- An item of the transit list in a reply (R142). -/
def State.itemBytes (s : State) (it : Item) : List Byte :=
  b1 it.kind.code ++ b2 (s.numberIn it.copy.slot) ++ b1 it.copy.line ++ b1 (statusCode it.void)
    ++ bo 1 (fun c => b1 c.code) it.void ++ b2 it.units ++ b1 (dropCode it.dest)

/-- The Sorter's state (R142). The 24 bin records are a list, the tray record is not (log entry 45). -/
def State.binsParts (s : State) : List Part :=
  [.list (s.sorter.bins.toList.map s.binBytes),
   .full (s.binBytes s.sorter.tray ++ b1 s.freeBins.length ++ b1 s.standardOwned ++ b4 s.sorter.expressReserve
      ++ b4 s.sorter.binCapacity ++ b4 s.sorter.bulkCapacity ++ b2 s.sorter.reject),
   .list (s.sorter.transit.map s.itemBytes),
   .full (bf s.sorter.timer.isSome)]

/-- QUERY BINS (R142). -/
def handleQueryBins (first : Nat) (s : State) : Verdict := reportOnly (page first allEntries s.binsParts) s

/-! ## QUERY STATUS (R189) -/

/-- ENGINE AND LINK (R189). -/
def State.engineParts (s : State) : List Part :=
  [.full (b1 s.engine.state.code ++ bf s.engine.webUnknown ++ b1 s.engine.resetCause.code ++ b4 s.nextSeq
    ++ b1 s.link.buffer.length ++ b1 s.link.replies.length ++ b1 s.link.notices.length ++ bf s.link.lost
    ++ b2 s.link.dropped ++ s.limitBytes)]

/-- The changeover in a reply: state, target, from (section 2.6). -/
def Changeover.bytes : Changeover → List Byte
  | .idle => b1 0 ++ b1 0 ++ b1 (magOrNoneCode none)
  | .pending t f => b1 1 ++ b1 t.code ++ b1 (magOrNoneCode f)
  | .threading t f => b1 2 ++ b1 t.code ++ b1 (magOrNoneCode f)

/-- MAGAZINES (R44). The two magazine records are plain fields (log entry 45). -/
def State.magazineParts (s : State) : List Part :=
  [.full (magBytes s.mags.magA ++ magBytes s.mags.magB ++ b1 (magOrNoneCode s.mags.selector) ++ s.mags.change.bytes
    ++ i1 s.mags.drift.r ++ i1 s.mags.drift.g ++ i1 s.mags.drift.b)]

/-- Orders by number in list sequence (R47). -/
def State.numbers (s : State) (slots : List Slot) : Part := .list (slots.map fun i => b2 (s.numberIn i))

/-- SCHEDULER (R47). The bin-wait set is a set, and the model reports it in the sequence of joining (log entry 37). -/
def State.schedulerParts (s : State) : List Part :=
  [s.numbers s.sched.remake, s.numbers s.sched.express, s.numbers s.sched.standard,
   .full (b1 s.sched.slice ++ b4 s.sched.standardSlice), s.numbers s.sched.binWait]

/-- A raster call in a reply (R89). -/
def State.callBytes (s : State) (c : Call) : List Byte :=
  b2 c.tag ++ b1 c.state.code ++ b2 (s.numberIn c.slot) ++ b1 c.line ++ b2 c.times.r ++ b2 c.times.g ++ b2 c.times.b
    ++ b2 c.gap

/-- EXPOSURE (R89). -/
def State.exposureParts (s : State) : List Part :=
  [.list (s.expo.calls.map s.callBytes),
   .full (b1 s.expo.miss ++ b2 s.expo.lastTag ++ bf s.expo.trailing.isSome ++ b4 s.expo.gap ++ b4 s.expo.readyTimeout)]

/-- The purge record in a reply: state, distance target, distance moved (section 5.7). While it is OFF the two distances
are reported as 0, which is the model's choice (log entry 22). -/
def purgeBytes : Option Purge → List Byte
  | none => b1 0 ++ i4 0 ++ i4 0
  | some p => b1 1 ++ i4 p.target ++ i4 p.moved

/-- A segment in a reply (R105). The order number and the line have a presence byte each (log entry 44). -/
def State.segmentBytes (s : State) (g : Segment) : List Byte :=
  b1 g.kind.code ++ bo 2 (fun c => b2 (s.numberIn c.slot)) g.copy ++ bo 1 (fun c => b1 c.line) g.copy ++ i4 g.lead
    ++ i4 g.length ++ b2 g.width.mm ++ b2 g.gap ++ b1 (statusCode g.void) ++ bo 1 (fun c => b1 c.code) g.void
    ++ bf g.presented ++ b2 g.tag

/-- WEB (R105). -/
def State.webParts (s : State) : List Part :=
  [.full (b1 s.web.transport.code ++ s.web.stations.bytes ++ purgeBytes s.web.purge ++ b1 s.web.queue.length),
   .list (s.web.queue.map s.segmentBytes)]

/-- The recovery record in a reply (section 6.4). The run length is the number 128 or 8 in one byte, which is the model's
choice (log entry 52). -/
def Recovery.bytes (r : Recovery) : List Byte :=
  b1 r.kind.code ++ b1 r.runLength ++ b1 r.remaining ++ b2 r.checked ++ b2 r.entered ++ b1 (recoveryReturnCode r.ret)
    ++ bf r.shortDue

/-- CUTTER (R121). One presence byte says whether a check is in hand and stands for the tag and kind of its segment
together (log entry 39). -/
def State.cutterParts (s : State) : List Part :=
  [.full (b1 s.cutter.count ++ b1 (modeCode s.cutter.blind) ++ b4 s.cutter.warningLimit ++ b4 s.cutter.markWindow
    ++ s.cutter.recovery.bytes ++ bo 3 (fun p => b2 p.1.tag ++ b1 p.1.kind.code) s.openCheck
    ++ bo 5 (fun k => b4 k.m ++ bf k.matched) s.cutter.mark)]

/-- An index of a bank in a reply; the empty form has an empty tier list (R161, R190). -/
def priceBytes (e : Option PriceEntry) : List Byte := bo 5 PriceEntry.bytes e

/-- PRICING for one bank (R161). The latch counts and the tax rates are plain fields, the promotions and the entries of
the bank are lists, which is the model's choice (log entry 45). -/
def State.pricingParts (s : State) (bank : BankIx) : List Part :=
  [.full (b1 (s.pricing.selected.val + 1) ++ (s.pricing.latch.toList.map b1).flatten
      ++ (s.pricing.tax.toList.map b2).flatten),
   .list (s.pricing.promotions.toList.map promotionBytes),
   .list (s.pricing.book[bank].toList.map priceBytes)]

/-- The seconds left to the expiry of a running soak timer: a free value within the timer's load (R176; log
entry 4). -/
def State.soakLeft (s : State) : Nat := min (Config.soakSecondsLeft s.free) (s.stop.soak.getD 0)

/-- The conditions as active or inactive, in the sequence of R172. -/
def State.conditionFlags (s : State) : List Byte := (Condition.all.map fun c => bf (s.stop.active.contains c)).flatten

/-- STOP (R176). Whether the soak timer is running is a flag of its own with the seconds behind it in every case, and the
six patterns are plain fields, which are the model's choices (log entries 46 and 45). So is the code of the return state
(log entry 49). -/
def State.stopParts (s : State) : List Part :=
  [.full (b1 (causesCode s.stop.causes) ++ bo 1 (fun e => b1 e.code) s.stop.ret ++ bf s.stop.j1 ++ bf s.stop.j2
    ++ bf s.stop.j3 ++ bf s.stop.latch ++ bf s.stop.soak.isSome ++ b4 s.soakLeft ++ b4 s.stop.soakLimit
    ++ s.conditionFlags ++ bo 1 (fun c => b1 c.code) s.stop.driving ++ bf s.stop.mute
    ++ (s.stop.patterns.toList.map Pattern.bytes).flatten)]

/-- A part without a parameter: the parameter byte is 0 (section 10.9; log entry 32). -/
def plainPart (param first : Nat) (parts : List Part) (s : State) : Verdict :=
  if param = 0 then reportOnly (page first allEntries parts) s else .refused .badValue

/-- QUERY STATUS (R189). -/
def handleQueryStatus (part param first : Nat) (s : State) : Verdict :=
  match part with
  | 0 => plainPart param first s.engineParts s
  | 1 => plainPart param first s.magazineParts s
  | 2 => plainPart param first s.schedulerParts s
  | 3 => plainPart param first s.exposureParts s
  | 4 => if param < Config.webCap then reportOnly (page param 16 s.webParts) s else .refused .badValue
  | 5 => plainPart param first s.cutterParts s
  | 6 => if h : param < 4 then reportOnly (page first allEntries (s.pricingParts ⟨param, h⟩)) s else .refused .badValue
  | 7 => plainPart param first s.stopParts (if s.stop.soak.isSome then s.setFree (s.free + 1) else s)
  | _ => .refused .badValue

/-! ## The rows -/

/-- QUERY_BINS. -/
def execQueryBins (s : State) : Host.Outcome State Fault Refusal :=
  .next (s.request fun | .queryBins first => some (handleQueryBins first) | _ => none)

/-- QUERY_STATUS. -/
def execQueryStatus (s : State) : Host.Outcome State Fault Refusal :=
  .next (s.request fun | .queryStatus part param first => some (handleQueryStatus part param first) | _ => none)

end Sys2Proof.Machine
end

