-- ==== Sys2Proof/Machine/RasterEvents.lean ====
section
/-! DEFINITION. The events of the raster port and of the raster calls (R70, R74 to R82). -/

namespace Sys2Proof.Machine

open Sys2Proof

/-- The miss count set to 0 and the call READY (R74). -/
def State.makeReady (s : State) (tag : Nat) : State :=
  let s := s.setCall tag fun c => { c with state := .ready, timer := none }
  ((s.setExpo { s.expo with miss := 0 }).headTest).transportTest

/-- A READY record (R74, R82). -/
def State.takeReady (tag : Nat) (s : State) : State :=
  match s.call tag with
  | none => s
  | some c => if c.state = .preparing then s.makeReady tag else s

/-- The segment of a call voided as a raster fault (R80, R81). -/
def State.faultSegment (s : State) (c : Call) : State :=
  match c.segment with
  | none => s
  | some sid => s.voidOne .rasterFault sid

/-- The early status of an exposing call (R80). -/
def State.setEarly (s : State) (tag : Nat) (st : DoneStatus) : State := s.setCall tag fun c => { c with early := some st }

/-- A DONE record, by the state of its call (R80, R82). -/
def State.takeDone (tag : Nat) (status : DoneStatus) (s : State) : State :=
  match s.call tag with
  | none => s
  | some c =>
    match c.state, status with
    | .preparing, .good => s
    | .ready, .good => s
    | .preparing, .fault => (s.removeCall tag).raiseMiss
    | .ready, .fault => (s.removeCall tag).raiseMiss
    | .exposing, .good => if c.early.isNone then s.setEarly tag .good else s
    | .exposing, .fault => if c.early.isNone then (s.setEarly tag .fault).faultSegment c else s
    | .awaitingDone, .good => s.removeCall tag
    | .awaitingDone, .fault => (s.faultSegment c).removeCall tag

/-- A READY timer expires (R75). -/
def State.readyExpired (tag : Nat) (s : State) : State :=
  match s.call tag with
  | none => s
  | some c => if c.state = .preparing then (s.cancelCall c).raiseMiss else s

/-- A DONE timer expires (R81). -/
def State.doneExpired (tag : Nat) (s : State) : State :=
  match s.call tag with
  | none => s
  | some c => if c.state = .awaitingDone then ((s.faultSegment c).removeCall tag).raiseMiss else s

/-- A record that passed the port's checks is delivered; any other frame leaves no trace (R70). -/
def State.deliverRecord (s : State) : RxEvent → State
  | .bad => s
  | .frame f =>
    match rasterRecord f with
    | .discard => s
    | .ready tag => s.event (State.takeReady tag)
    | .done tag st => s.event (State.takeDone tag st)

/-- One byte received on the raster port (R70). -/
def State.rasterByte (s : State) (b : Byte) : State :=
  let r := portByte s.expo.rx b
  let s := s.setExpo { s.expo with rx := r.1 }
  match r.2 with
  | none => s
  | some e => s.deliverRecord e

/-- Bytes received on the raster port; a frame in hand that stalls is dropped without an answer (R70). -/
def State.rasterBytes (s : State) (bytes : List Byte) (stalls : Bool) : State :=
  let s := bytes.foldl State.rasterByte s
  if stalls then s.setExpo { s.expo with rx := none } else s

/-- The record being sent has been sent (R70). -/
def State.recordSent (s : State) : State :=
  if s.expo.portBusy then
    (s.setExpo { s.expo with port := s.expo.port.drop 1, portBusy := false }).setDue { s.due with port := true }
  else s

/-! ## The rows -/

/-- READY (R74). -/
def execReady (tag : Nat) (s : State) : Host.Outcome State Fault Refusal := .next (s.event (State.takeReady tag))

/-- DONE (R80). -/
def execDone (tag : Nat) (status : DoneStatus) (s : State) : Host.Outcome State Fault Refusal :=
  .next (s.event (State.takeDone tag status))

/-- RASTER_FRAME_DISCARD (R70). -/
def execRasterFrameDiscard (bytes : List Byte) (stalls : Bool) (s : State) : Host.Outcome State Fault Refusal :=
  .next (if s.engine.resetAsserted then s else s.rasterBytes bytes stalls)

/-- READY_TIMER_EXPIRED (R75). -/
def execReadyTimerExpired (tag : Nat) (s : State) : Host.Outcome State Fault Refusal :=
  .next (s.event (State.readyExpired tag))

/-- DONE_TIMER_EXPIRED (R81). -/
def execDoneTimerExpired (tag : Nat) (s : State) : Host.Outcome State Fault Refusal :=
  .next (s.event (State.doneExpired tag))

/-- EXPOSURE_BEGIN (R76 to R78). -/
def execExposureBegin (s : State) : Host.Outcome State Fault Refusal :=
  .next (s.event (State.exposeTest (Config.pipelineCap + 1)))

/-- EXPOSURE_END (R79). -/
def execExposureEnd (s : State) : Host.Outcome State Fault Refusal := .next (s.event State.exposureEndTest)

/-- RASTER_RECORD_SENT (R70). -/
def execRasterRecordSent (s : State) : Host.Outcome State Fault Refusal := .next (s.event State.recordSent)

end Sys2Proof.Machine
end

