-- ==== Sys2Proof/Machine/SorterEvents.lean ====
section
/-! DEFINITION. The events of the sorter: drops, presence sensors, the sort timer (R131 to R137). -/

namespace Sys2Proof.Machine

open Sys2Proof

/-- The level of a presence sensor taken over (R123, R136, R137). -/
def State.setPresence (s : State) (p : Container) (occupied : Bool) : State :=
  s.putPlace p { s.place p with occupied := occupied }

/-- An OWNED bin or the tray emptied while its order prints: units used 0, the owner disturbed, BIN DISTURBED
(R136). -/
def State.disturbPlace (s : State) (p : Container) : State :=
  let s := s.putPlace p { s.place p with used := 0 }
  match (s.place p).owner with
  | none => s
  | some slot =>
    match s.order slot with
    | none => s
    | some o => (s.disturbedReport slot).notify (.binDisturbed p o.number slot)

/-- A bin or the tray freed by its presence sensor, with the collection test of its order (R136, R140, R14). -/
def State.collectPlace (s : State) (p : Container) : State :=
  let owner := (s.place p).owner
  let s := s.freePlace p
  match owner with
  | none => s
  | some slot => s.tryFree slot

/-- A presence sensor reports the place empty (R136). -/
def State.emptied (p : Container) (s : State) : State :=
  let s := s.setPresence p false
  match (s.place p).state with
  | .owned => s.disturbPlace p
  | .ready => s.collectPlace p
  | .stale => s.collectPlace p
  | .free => s

/-- A presence sensor reports the place occupied (R137). -/
def State.filled (p : Container) (s : State) : State :=
  let s := s.setPresence p true
  if (s.place p).state = .free then s.putPlace p { s.place p with state := .stale, used := 0 } else s

/-- The sort timer expires (R131). -/
def State.sortExpired (s : State) : State := if s.sorter.timer.isSome then s.sorterJam none else s

/-! ## The rows -/

/-- SORT_TIMER_EXPIRED (R131). -/
def execSortTimerExpired (s : State) : Host.Outcome State Fault Refusal := .next (s.event State.sortExpired)

/-- DROP_EVENT (R132 to R134). -/
def execDropEvent (point : DropPoint) (s : State) : Host.Outcome State Fault Refusal :=
  .next (s.event (·.drop point))

/-- PRESENCE_EMPTY (R136). While the RESET line is asserted only the sensor's level is followed (log entry 18). -/
def execPresenceEmpty (place : Container) (s : State) : Host.Outcome State Fault Refusal :=
  .next (if s.engine.resetAsserted then s.setPresence place false else s.event (State.emptied place))

/-- PRESENCE_OCCUPIED (R137). While the RESET line is asserted only the sensor's level is followed (log entry 18). -/
def execPresenceOccupied (place : Container) (s : State) : Host.Outcome State Fault Refusal :=
  .next (if s.engine.resetAsserted then s.setPresence place true else s.event (State.filled place))

end Sys2Proof.Machine
end

