-- ==== Sys2Proof/Machine/StopEvents.lean ====
section
/-! DEFINITION. The events of Stop Control: the jam sensors, the soak timer and the annunciator's envelopes (R166, R167,
R169, R173). -/

namespace Sys2Proof.Machine

open Sys2Proof

/-- The level of a jam sensor input taken over. -/
def State.setJam (s : State) (j : JamSensor) (on : Bool) : State := s.setStop (s.stop.setLevel j on)

/-- The jam latch set or re-armed. -/
def State.setLatch (s : State) (on : Bool) : State := s.setStop { s.stop with latch := on }

/-- A segment overlaps the void window of a jam sensor with the stations in force (R166, R99). -/
def Stations.inWindow (g : Stations) (j : JamSensor) (x : Segment) : Bool := x.overlaps (g.window j).1 (g.window j).2

/-- The jam taken with the latch clear: the window voided as a jam void, then JAM raised with the number voided
(R166). -/
def State.takeJam (s : State) (j : JamSensor) : State :=
  let p := s.web.stations.inWindow j
  let n := (s.web.voidTargets p).length
  (s.voidSegments .jamVoid p).raiseCause .jam (some (jamSourceOf j, n)) none

/-- A jam sensor input goes asserted (R166; log entry 25 for a level that repeats). -/
def State.jamAsserted (j : JamSensor) (s : State) : State :=
  if s.stop.level j then s
  else
    let armed := !s.stop.latch
    let s := s.setJam j true
    if armed then
      let s := s.setLatch true
      if s.engine.state = .setup then s else s.takeJam j
    else s

/-- A jam sensor input goes clear: the latch re-arms when all three are clear (R167; log entry 25). -/
def State.jamCleared (j : JamSensor) (s : State) : State :=
  if s.stop.level j then
    let s := s.setJam j false
    if s.stop.anyJam then s else s.setLatch false
  else s

/-- The soak timer expires: the processor section voided as a soak void, SOAK EXPIRED, the timer off (R169). -/
def State.soakExpired (s : State) : State :=
  if s.stop.soak.isSome then
    let p := fun g : Segment => g.overlaps s.web.stations.pIn s.web.stations.pOut
    let n := (s.web.voidTargets p).length
    let s := s.voidSegments .soakVoid p
    let s := s.notify (.soakExpired n s.stop.causes)
    s.setStop { s.stop with soak := none }
  else s

/-- The envelopes of the driving condition reach their next edge (R173). -/
def State.envelopeEdge (s : State) : State :=
  match s.stop.driving.bind fun c => s.stop.patterns[c.ix].edgeStep with
  | none => s
  | some k => (s.setStop { s.stop with phase := (s.stop.phase + k) % 16 }).driveLamp

/-! ## The rows -/

/-- JAM_SENSOR_ASSERTED (R166). While the RESET line is asserted only the sensor's level is followed (log
entry 18). -/
def execJamSensorAsserted (sensor : JamSensor) (s : State) : Host.Outcome State Fault Refusal :=
  .next (if s.engine.resetAsserted then s.setJam sensor true else s.event (State.jamAsserted sensor))

/-- JAM_SENSOR_CLEAR (R167). While the RESET line is asserted only the sensor's level is followed (log entry 18). -/
def execJamSensorClear (sensor : JamSensor) (s : State) : Host.Outcome State Fault Refusal :=
  .next (if s.engine.resetAsserted then s.setJam sensor false else s.event (State.jamCleared sensor))

/-- SOAK_TIMER_EXPIRED (R169). -/
def execSoakTimerExpired (s : State) : Host.Outcome State Fault Refusal := .next (s.event State.soakExpired)

/-- ANNUNCIATOR_ENVELOPE_EDGE (R173). -/
def execAnnunciatorEnvelopeEdge (s : State) : Host.Outcome State Fault Refusal := .next (s.event State.envelopeEdge)

end Sys2Proof.Machine
end

