-- ==== Sys2Proof/Machine/WebEvents.lean ====
section
/-! DEFINITION. The events of the web, the paper and the cutter (R93, R40 to R42, R102, R106, R116). -/

namespace Sys2Proof.Machine

open Sys2Proof

/-- A segment moved downstream (R93). -/
def Segment.moved (g : Segment) (d : Nat) : Segment := { g with lead := g.lead + d }

/-- The mark strips whose trail this movement brings to the exposure line, oldest first (R116). -/
def Web.stripMarks (w : Web) (d : Nat) : List Strobe :=
  (w.queue.filter fun g => g.kind == .markStrip && decide (g.trail < 0 ∧ 0 ≤ g.trail + (d : Int))).map fun g =>
    Strobe.markWritten g.sid

/-- Every segment moved, with the marks of the mark strips written (R93, R116). -/
def State.moveWeb (s : State) (d : Nat) : State :=
  (s.setLines { s.lines with strobes := s.lines.strobes ++ s.web.stripMarks d }).setWeb
    { s.web with queue := s.web.queue.map (·.moved d) }

/-- The mark memory advanced (R106). -/
def State.moveMark (s : State) (d : Nat) : State :=
  s.setCutter { s.cutter with mark := s.cutter.mark.map fun k => { k with m := min (k.m + d) Config.maxDistance } }

/-- The parts of an encoder event behind the movement: exposure end and exposure begin, the purge's count, the open
check, presentation, the purge's end (R93, R79, R76, R101, R108, R96, R102; log entry 7). -/
def State.followMove (s : State) (d : Nat) : State :=
  let s := s.exposureEndTest.exposeTest (Config.pipelineCap + 1)
  (((s.countPurge d).missTest).serveBlade).purgeEndTest

/-- An encoder event: taken with the transport RUNNING, discarded otherwise (R93). -/
def State.encoder (d : Nat) (s : State) : State :=
  if s.web.transport = .running then
    ((((((s.moveWeb d).usePaper d).moveMark d).followMove d).headTest).stripTest).transportTest
  else s

/-- A mark sensed: placed in the mark memory, and it finds the mark of an open check; ignored unless the transport is
RUNNING (R106, R108). -/
def State.senseMark (s : State) : State :=
  if s.web.transport = .running then
    let s := s.setCutter { s.cutter with mark := some ⟨0, false⟩ }
    match s.openCheck with
    | none => s
    | some (g, _) => s.closeCheck State.serveBlade true g
  else s

/-- The paper-at-head sensor goes asserted (R41). -/
def State.headSensed (s : State) : State :=
  match s.mags.change with
  | .idle => s
  | .pending _ _ => s
  | .threading m _ =>
    match s.mags.get m with
    | none => s
    | some r => s.completeChangeover m r

/-- The threading timer expires (R42). That the paper has changed is reported before MAGAZINE is raised, so that the
paper check of R63 runs in RUN and PAUSED, which is the model's choice (log entry 35). -/
def State.threadingExpired (s : State) : State :=
  match s.mags.change with
  | .idle => s
  | .pending _ _ => s
  | .threading m _ =>
    let s := (s.threadDrive m false).setMags { s.mags with change := .idle }
    (s.paperChanged.transportTest).raiseCause .magazine none none

/-! ## The rows -/

/-- ENCODER_EVENT (R93). -/
def execEncoderEvent (distance : Nat) (s : State) : Host.Outcome State Fault Refusal :=
  .next (s.event (State.encoder distance))

/-- PAPER_AT_HEAD (R41). -/
def execPaperAtHead (s : State) : Host.Outcome State Fault Refusal := .next (s.event State.headSensed)

/-- THREADING_TIMER_EXPIRED (R42). -/
def execThreadingTimerExpired (s : State) : Host.Outcome State Fault Refusal := .next (s.event State.threadingExpired)

/-- MARK_SENSED (R106, R108). -/
def execMarkSensed (s : State) : Host.Outcome State Fault Refusal := .next (s.event State.senseMark)

/-- FEED_CUT (R40). -/
def execFeedCut (s : State) : Host.Outcome State Fault Refusal := .next (s.event State.feedCutTest)

/-- MARK_STRIP_ENTRY (R116). -/
def execMarkStripEntry (s : State) : Host.Outcome State Fault Refusal := .next (s.event State.stripStep)

/-- PURGE_END (R102). -/
def execPurgeEnd (s : State) : Host.Outcome State Fault Refusal := .next (s.event State.purgeEndTest)

end Sys2Proof.Machine
end

