-- ==== Sys2Proof/Machine/Dispatch.lean ====
section
/-! DEFINITION. The meaning of every command: one arm per constructor of `Instr`. -/

namespace Sys2Proof.Machine

open Sys2Proof

/-- The effect of a command on everything but the queue. -/
def exec (i : Instr) (s : State) : Host.Outcome State Fault Refusal :=
  match i with
  | .powerOn => Sys2Proof.Machine.execPowerOn s
  | .resetLine => Sys2Proof.Machine.execResetLine s
  | .requestFrame bytes => Sys2Proof.Machine.execRequestFrame bytes s
  | .frameTimeout => Sys2Proof.Machine.execFrameTimeout s
  | .frameSent => Sys2Proof.Machine.execFrameSent s
  | .malformed => Sys2Proof.Machine.execMalformed s
  | .admitOrder => Sys2Proof.Machine.execAdmitOrder s
  | .cancelOrder => Sys2Proof.Machine.execCancelOrder s
  | .holdOrder => Sys2Proof.Machine.execHoldOrder s
  | .releaseOrder => Sys2Proof.Machine.execReleaseOrder s
  | .acceptOrder => Sys2Proof.Machine.execAcceptOrder s
  | .queryOrder => Sys2Proof.Machine.execQueryOrder s
  | .quoteOrder => Sys2Proof.Machine.execQuoteOrder s
  | .repriceOrder => Sys2Proof.Machine.execRepriceOrder s
  | .setSize => Sys2Proof.Machine.execSetSize s
  | .loadMagazine => Sys2Proof.Machine.execLoadMagazine s
  | .unloadMagazine => Sys2Proof.Machine.execUnloadMagazine s
  | .setDrift => Sys2Proof.Machine.execSetDrift s
  | .setStations => Sys2Proof.Machine.execSetStations s
  | .setLimits => Sys2Proof.Machine.execSetLimits s
  | .setFaultCount => Sys2Proof.Machine.execSetFaultCount s
  | .setPrice => Sys2Proof.Machine.execSetPrice s
  | .clearPrice => Sys2Proof.Machine.execClearPrice s
  | .setPromotion => Sys2Proof.Machine.execSetPromotion s
  | .setTax => Sys2Proof.Machine.execSetTax s
  | .selectBank => Sys2Proof.Machine.execSelectBank s
  | .setPattern => Sys2Proof.Machine.execSetPattern s
  | .silence => Sys2Proof.Machine.execSilence s
  | .queryBins => Sys2Proof.Machine.execQueryBins s
  | .queryStatus => Sys2Proof.Machine.execQueryStatus s
  | .enterSetup => Sys2Proof.Machine.execEnterSetup s
  | .enterRun => Sys2Proof.Machine.execEnterRun s
  | .pause => Sys2Proof.Machine.execPause s
  | .continueRun => Sys2Proof.Machine.execContinueRun s
  | .resume => Sys2Proof.Machine.execResume s
  | .cutterRestart => Sys2Proof.Machine.execCutterRestart s
  | .restart => Sys2Proof.Machine.execRestart s
  | .ready tag => Sys2Proof.Machine.execReady tag s
  | .done tag status => Sys2Proof.Machine.execDone tag status s
  | .rasterFrameDiscard bytes stalls => Sys2Proof.Machine.execRasterFrameDiscard bytes stalls s
  | .readyTimerExpired tag => Sys2Proof.Machine.execReadyTimerExpired tag s
  | .doneTimerExpired tag => Sys2Proof.Machine.execDoneTimerExpired tag s
  | .threadingTimerExpired => Sys2Proof.Machine.execThreadingTimerExpired s
  | .sortTimerExpired => Sys2Proof.Machine.execSortTimerExpired s
  | .soakTimerExpired => Sys2Proof.Machine.execSoakTimerExpired s
  | .encoderEvent distance => Sys2Proof.Machine.execEncoderEvent distance s
  | .paperAtHead => Sys2Proof.Machine.execPaperAtHead s
  | .jamSensorAsserted sensor => Sys2Proof.Machine.execJamSensorAsserted sensor s
  | .jamSensorClear sensor => Sys2Proof.Machine.execJamSensorClear sensor s
  | .markSensed => Sys2Proof.Machine.execMarkSensed s
  | .dropEvent point => Sys2Proof.Machine.execDropEvent point s
  | .presenceEmpty place => Sys2Proof.Machine.execPresenceEmpty place s
  | .presenceOccupied place => Sys2Proof.Machine.execPresenceOccupied place s
  | .exposureBegin => Sys2Proof.Machine.execExposureBegin s
  | .exposureEnd => Sys2Proof.Machine.execExposureEnd s
  | .feedCut => Sys2Proof.Machine.execFeedCut s
  | .markStripEntry => Sys2Proof.Machine.execMarkStripEntry s
  | .purgeEnd => Sys2Proof.Machine.execPurgeEnd s
  | .resetLineAsserted => Sys2Proof.Machine.execResetLineAsserted s
  | .rasterRecordSent => Sys2Proof.Machine.execRasterRecordSent s
  | .annunciatorEnvelopeEdge => Sys2Proof.Machine.execAnnunciatorEnvelopeEdge s

end Sys2Proof.Machine
end

