-- ==== Sys2Proof/WellFormed.lean ====
section
/-! DEFINITION. Which commands are well formed: the operand ranges the spec gives to the events that carry a
number. A drop point and a presence sensor are in range by their types. -/

namespace Sys2Proof

/-- A raster tag that can stand on the port, 1..65535 (R71; a tag of 0 is discarded, R70). -/
def tagOk (tag : Nat) : Bool := decide (1 ≤ tag ∧ tag ≤ 65535)

/-- A command whose operands are in the ranges the spec gives: tags 1..65535 (R71) and an encoder event of
1..255 web units (R93). -/
def Instr.wf : Instr → Bool
  | .ready tag => tagOk tag
  | .done tag _ => tagOk tag
  | .readyTimerExpired tag => tagOk tag
  | .doneTimerExpired tag => tagOk tag
  | .encoderEvent d => decide (1 ≤ d ∧ d ≤ 255)
  | .powerOn | .resetLine | .requestFrame _ | .frameTimeout | .frameSent | .malformed => true
  | .admitOrder | .cancelOrder | .holdOrder | .releaseOrder | .acceptOrder | .queryOrder => true
  | .quoteOrder | .repriceOrder | .setSize | .loadMagazine | .unloadMagazine | .setDrift => true
  | .setStations | .setLimits | .setFaultCount | .setPrice | .clearPrice | .setPromotion => true
  | .setTax | .selectBank | .setPattern | .silence | .queryBins | .queryStatus => true
  | .enterSetup | .enterRun | .pause | .continueRun | .resume | .cutterRestart | .restart => true
  | .rasterFrameDiscard _ _ | .threadingTimerExpired | .sortTimerExpired | .soakTimerExpired => true
  | .paperAtHead | .jamSensorAsserted _ | .jamSensorClear _ | .markSensed | .dropEvent _ => true
  | .presenceEmpty _ | .presenceOccupied _ | .exposureBegin | .exposureEnd | .feedCut => true
  | .markStripEntry | .purgeEnd | .resetLineAsserted | .rasterRecordSent | .annunciatorEnvelopeEdge => true

end Sys2Proof
end

