-- ==== Sys2Proof/Safety.lean ====
section
/-! DEFINITION. What holds of every good state of the controller, and the words in which the statements speak of a
taken request. -/

namespace Sys2Proof.Machine

open Sys2Proof

/-! ## Words of the statements -/

/-- The commands that take a request frame out of the receive buffer: the 31 requests and MALFORMED. -/
def isRequestRow : Instr → Bool
  | .malformed | .admitOrder | .cancelOrder | .holdOrder | .releaseOrder | .acceptOrder | .queryOrder => true
  | .quoteOrder | .repriceOrder | .setSize | .loadMagazine | .unloadMagazine | .setDrift | .setStations => true
  | .setLimits | .setFaultCount | .setPrice | .clearPrice | .setPromotion | .setTax | .selectBank => true
  | .setPattern | .silence | .queryBins | .queryStatus | .enterSetup | .enterRun | .pause => true
  | .continueRun | .resume | .cutterRestart | .restart => true
  | .powerOn | .resetLine | .requestFrame _ | .frameTimeout | .frameSent | .ready _ | .done _ _ => false
  | .rasterFrameDiscard _ _ | .readyTimerExpired _ | .doneTimerExpired _ | .threadingTimerExpired => false
  | .sortTimerExpired | .soakTimerExpired | .encoderEvent _ | .paperAtHead | .jamSensorAsserted _ => false
  | .jamSensorClear _ | .markSensed | .dropEvent _ | .presenceEmpty _ | .presenceOccupied _ => false
  | .exposureBegin | .exposureEnd | .feedCut | .markStripEntry | .purgeEnd | .resetLineAsserted => false
  | .rasterRecordSent | .annunciatorEnvelopeEdge => false

/-- The commands that act while the RESET line is asserted: the resets, and the sensor levels (log entry 18). -/
def actsInReset : Instr → Bool
  | .powerOn | .resetLine | .resetLineAsserted => true
  | .jamSensorAsserted _ | .jamSensorClear _ | .presenceEmpty _ | .presenceOccupied _ => true
  | .requestFrame _ | .frameTimeout | .frameSent | .ready _ | .done _ _ | .rasterFrameDiscard _ _ => false
  | .malformed | .admitOrder | .cancelOrder | .holdOrder | .releaseOrder | .acceptOrder | .queryOrder => false
  | .quoteOrder | .repriceOrder | .setSize | .loadMagazine | .unloadMagazine | .setDrift | .setStations => false
  | .setLimits | .setFaultCount | .setPrice | .clearPrice | .setPromotion | .setTax | .selectBank => false
  | .setPattern | .silence | .queryBins | .queryStatus | .enterSetup | .enterRun | .pause => false
  | .continueRun | .resume | .cutterRestart | .restart | .readyTimerExpired _ | .doneTimerExpired _ => false
  | .threadingTimerExpired | .sortTimerExpired | .soakTimerExpired | .encoderEvent _ | .paperAtHead => false
  | .markSensed | .dropEvent _ | .exposureBegin | .exposureEnd | .feedCut | .markStripEntry => false
  | .purgeEnd | .rasterRecordSent | .annunciatorEnvelopeEdge => false

/-- The frame `f` is the oldest of the receive buffer, may be taken now, and carries the request `r` (R178). -/
structure State.Offers (s : State) (f : Frame) (rest : List Frame) (r : Request) : Prop where
  buffer : s.link.buffer = f :: rest
  open_ : s.mayTake = true
  parses : parseRequest f = some r

/-- The state after a request has been handled with the effect already in `s`: the frame gone, the reply placed and
begun where the transmitter was idle, no mark left. -/
def State.answered (s : State) (rest : List Frame) (r : Reply) : State :=
  { s with
    link := { s.link with
      buffer := rest
      replies := s.link.replies ++ [r]
      sending := if s.link.sending = .nothing then .reply else s.link.sending }
    due := Due.none }

/-- The reply that accepts the request of a frame (R179). -/
def accepts (f : Frame) (data : List Byte) : Reply := ⟨f.tag, f.kind, none, data⟩

/-- The reply that refuses the request of a frame (R179). -/
def refuses (f : Frame) (code : RefusalCode) : Reply := ⟨f.tag, f.kind, some code, []⟩

/-- The state in which a taken request is handled: its frame has left the buffer, no mark is set (R178). -/
def State.taken (s : State) (rest : List Frame) : State :=
  (s.setLink { s.link with buffer := rest }).setDue Due.none

/-- The state in which an event's own effect begins: no mark is set. -/
def State.fresh (s : State) : State := s.setDue Due.none

/-- A receiver fed with bytes: where it stands after them, and what it found, oldest first (R177). -/
def rxFeed : Option (List Byte) → List Byte → Option (List Byte) × List RxEvent
  | rx, [] => (rx, [])
  | rx, b :: bs => ((rxFeed (rxByte rx b).1 bs).1, (rxByte rx b).2.toList ++ (rxFeed (rxByte rx b).1 bs).2)

/-- The state after a request whose effect is `u`: its reactions made, then the reply placed (R178, log entry 5). -/
def State.repliesAfter (u : State) (r : Reply) : State := (u.settle.queueReply r).finish

/-- A reply placed by an event with no other effect: lost when 8 replies wait, begun at once when the transmitter is
idle (R177, R178, R180). -/
def State.replied (s : State) (r : Reply) : State :=
  if s.link.replies.length < 8 then s.answered s.link.buffer r else { s with due := Due.none }

/-- The occupied record that an order number names (R21): it stands in `slot`, and no other record has the number. -/
structure State.Names (s : State) (n : Nat) (slot : Slot) (o : Order) : Prop where
  occupied : s.order slot = some o
  number : o.number = n
  only : ∀ i p, s.order i = some p → p.number = n → i = slot

/-- The transmitter begins the oldest reply, or else the oldest notice, when it is idle (R180). -/
def nextSending (now : Sending) (replies : List Reply) (notices : List Notice) : Sending :=
  if now = .nothing then
    if replies ≠ [] then .reply else if notices ≠ [] then .notice else .nothing
  else now

/-- The values that power-on and the RESET line leave in every block, given the state they find (R188, and the rules
of the blocks that name them). -/
structure State.AtPowerOn (t s : State) (cause : ResetCause) : Prop where
  engine : t.engine.state = .setup ∧ t.engine.webUnknown = true ∧ t.engine.resetCause = cause
  link : t.link.rx = none ∧ t.link.buffer = [] ∧ t.link.replies = [] ∧ t.link.notices = [.started cause 1 0]
    ∧ t.link.lost = false ∧ t.link.dropped = 0
  orders : (∀ i, t.order i = none) ∧ t.orders.seq = 0 ∧ t.orders.remakeLimit = 3
  sched : t.sched.remake = [] ∧ t.sched.express = [] ∧ t.sched.standard = [] ∧ t.sched.binWait = []
    ∧ t.sched.standardSlice = 6 ∧ t.sched.slice = 6
  sizes : ∀ i : Fin 32, t.mags.sizes[i] = none
  mags : t.mags.magA = none ∧ t.mags.magB = none ∧ t.mags.selector = none ∧ t.mags.change = .idle
    ∧ t.mags.drift = ⟨0, 0, 0⟩
  expo : t.expo.calls = [] ∧ t.expo.miss = 0 ∧ t.expo.lastTag = 0 ∧ t.expo.trailing = none ∧ t.expo.gap = 20
    ∧ t.expo.readyTimeout = 2000 ∧ t.expo.port = [] ∧ t.expo.rx = none
  web : t.web.queue = [] ∧ t.web.stations = ⟨8000, 52000, 60000, 68000⟩ ∧ t.web.transport = .stopped
    ∧ t.web.purge = none
  cutter : t.cutter.mark = none ∧ t.cutter.check = none ∧ t.cutter.count = 0 ∧ t.cutter.warningLimit = 96
    ∧ t.cutter.markWindow = 15 ∧ t.cutter.recovery.kind = .none ∧ t.cutter.recovery.shortDue = false
    ∧ t.cutter.recovery.remaining = 0 ∧ t.cutter.recovery.checked = 0 ∧ t.cutter.recovery.entered = 0
  bins : ∀ p : Container, t.place p = ⟨if (s.place p).occupied then .stale else .free, none, none, 0, 0,
    (s.place p).occupied⟩
  sorter : t.sorter.transit = [] ∧ t.sorter.timer = none ∧ t.sorter.reject = 0 ∧ t.sorter.expressReserve = 4
    ∧ t.sorter.binCapacity = 100 ∧ t.sorter.bulkCapacity = 400 ∧ ∀ i : Slot, t.sorter.needs[i] = none
  pricing : (∀ (b : BankIx) (i : Fin 32), t.pricing.book[b][i] = none) ∧ t.pricing.selected = 0
    ∧ (∀ k : SwBank, t.pricing.latch[k] = 0) ∧ (∀ i : Fin 16, t.pricing.promotions[i] = none)
    ∧ ∀ c : Fin 4, t.pricing.tax[c] = 0
  stop : t.stop.causes = [] ∧ t.stop.ret = none ∧ t.stop.latch = false ∧ t.stop.soak = none
    ∧ t.stop.soakLimit = 90 ∧ t.stop.mute = false
  patterns : t.stop.patterns.toList = [⟨false, false, true, false, true⟩, ⟨false, true, false, false, true⟩,
    ⟨true, false, false, false, true⟩, ⟨true, true, false, false, false⟩, ⟨false, false, false, false, false⟩,
    ⟨true, false, false, true, false⟩]
  lines : t.lines.transportDrive = false ∧ t.lines.threadA = false ∧ t.lines.threadB = false
    ∧ t.lines.exposeGate = false ∧ t.lines.sortDrive = false ∧ t.lines.destination = 0 ∧ t.lines.lamp = false
    ∧ t.lines.buzzer = false

/-- A magazine record after RESTART: an ACTIVE roll is LOADED again, the rest is kept (R33). -/
def magRestarted (r : MagRec) : MagRec := if r.state = .active then { r with state := .loaded } else r

/-- What RESTART leaves in every block, given the state it finds (R187, and the rules of the blocks that name it):
the orders and everything that follows them gone, the tables and limits kept. -/
structure State.AtRestart (t s : State) : Prop where
  engine : t.engine = { s.engine with state := .setup, webUnknown := true, resetCause := .restart }
  link : t.link.rx = s.link.rx ∧ t.link.buffer = s.link.buffer ∧ t.link.replies = []
    ∧ t.link.notices = [.started .restart s.nextSeq s.cutter.count] ∧ t.link.lost = false ∧ t.link.dropped = 0
    ∧ t.link.sending = .notice
  orders : (∀ i, t.order i = none) ∧ t.orders.seq = s.orders.seq ∧ t.orders.remakeLimit = s.orders.remakeLimit
  sched : t.sched = ⟨[], [], [], s.sched.standardSlice, s.sched.standardSlice, []⟩
  mags : t.mags.sizes = s.mags.sizes ∧ t.mags.drift = s.mags.drift ∧ t.mags.selector = none
    ∧ t.mags.change = .idle ∧ t.mags.magA = s.mags.magA.map magRestarted ∧ t.mags.magB = s.mags.magB.map magRestarted
  expo : t.expo.calls = [] ∧ t.expo.miss = 0 ∧ t.expo.lastTag = s.expo.lastTag ∧ t.expo.trailing = none
    ∧ t.expo.gap = s.expo.gap ∧ t.expo.readyTimeout = s.expo.readyTimeout
  port : t.expo.rx = none ∧ t.expo.port = (if s.expo.portBusy then s.expo.port.take 1 else [])
    ∧ t.expo.portBusy = s.expo.portBusy
  web : t.web.queue = [] ∧ t.web.stations = s.web.stations ∧ t.web.transport = .stopped ∧ t.web.purge = none
  cutter : t.cutter.mark = none ∧ t.cutter.check = none ∧ t.cutter.count = s.cutter.count
    ∧ t.cutter.warningLimit = s.cutter.warningLimit ∧ t.cutter.markWindow = s.cutter.markWindow
    ∧ t.cutter.recovery.kind = .none ∧ t.cutter.recovery.shortDue = false
  bins : ∀ p : Container, t.place p = ⟨if (s.place p).occupied then .stale else .free, none, none, 0, 0,
    (s.place p).occupied⟩
  sorter : t.sorter.transit = [] ∧ t.sorter.timer = none ∧ t.sorter.reject = s.sorter.reject
    ∧ t.sorter.expressReserve = s.sorter.expressReserve ∧ t.sorter.binCapacity = s.sorter.binCapacity
    ∧ t.sorter.bulkCapacity = s.sorter.bulkCapacity ∧ ∀ i : Slot, t.sorter.needs[i] = none
  pricing : t.pricing.book = s.pricing.book ∧ t.pricing.selected = s.pricing.selected
    ∧ t.pricing.promotions = s.pricing.promotions ∧ t.pricing.tax = s.pricing.tax ∧ ∀ k : SwBank, t.pricing.latch[k] = 0
  stop : t.stop.causes = [] ∧ t.stop.ret = none ∧ t.stop.latch = false ∧ t.stop.soak = none
    ∧ t.stop.soakLimit = s.stop.soakLimit ∧ t.stop.patterns = s.stop.patterns ∧ t.stop.mute = false
  lines : t.lines.transportDrive = false ∧ t.lines.threadA = false ∧ t.lines.threadB = false
    ∧ t.lines.exposeGate = false ∧ t.lines.sortDrive = false ∧ t.lines.destination = 0

/-- The value checks of ADMIT ORDER that refuse with BAD VALUE (R6). -/
def AdmitBody.BadValue (b : AdmitBody) : Prop :=
  b.number = 0 ∨ 1 < b.cls ∨ 15 < b.customer ∨ (b.creditGiven = 1 ∧ 1000000 < b.credit) ∨ b.lines = []
    ∨ 16 < b.lines.length ∨ (∃ l ∈ b.lines, l.qty = 0) ∨ 1 < b.creditGiven ∨ 1 < b.indexGiven

/-- A product is not in the size table with this kind (R7). -/
def State.NotSized (s : State) (product : Nat) (kind : PrintKind) : Prop :=
  ∀ z, s.lookupSize product = some z → z.kind ≠ kind

/-- The product check of ADMIT ORDER fails (R7). -/
def State.BadProducts (s : State) (b : AdmitBody) : Prop :=
  (∃ l ∈ b.lines, s.NotSized l.product .print) ∨ (b.indexGiven = 1 ∧ s.NotSized b.indexProduct .index)

/-- No slot is free, or the admit sequence is exhausted (R5 check 3). -/
def State.NoPlace (s : State) : Prop := (∀ i, s.order i ≠ none) ∨ 4294967295 ≤ s.orders.seq

/-- An occupied record has the number (R5 check 4). -/
def State.Known (s : State) (n : Nat) : Prop := ∃ i o, s.order i = some o ∧ o.number = n

/-- The order is bulk and its units exceed BULK_CAPACITY (R5 check 6). -/
def State.TooLarge (s : State) (b : AdmitBody) : Prop :=
  4 * s.sorter.binCapacity < s.orderUnits b.orderLines ∧ s.sorter.bulkCapacity < s.orderUnits b.orderLines

/-- The engine states in which the host may write most tables and admit orders: SETUP, RUN and PAUSED. -/
def EngineState.open_ (e : EngineState) : Prop := e = .setup ∨ e = .run ∨ e = .paused

/-- The lines of an admitted order as R6 and R8 give them: each print line with its clamps, all copies queued, and the
index line last. -/
def AdmitBody.LinesAdmitted (b : AdmitBody) (ls : List Line) : Prop :=
  ls.length = b.lines.length + (if b.indexGiven = 1 then 1 else 0)
    ∧ (∀ (i : Nat) (l : LineBody), b.lines[i]? = some l →
        let c : Rgb Int := ⟨max (-50) (min 50 l.corr.r), max (-50) (min 50 l.corr.g), max (-50) (min 50 l.corr.b)⟩
        ls[i]? = some ⟨.print, l.product, l.image, c, min l.qty 999, min l.qty 999, 0, 0, 0, 0, 0, false, false,
          decide (999 < l.qty ∨ c ≠ l.corr), false⟩)
    ∧ (b.indexGiven = 1 →
        ls[b.lines.length]? = some ⟨.index, b.indexProduct, b.number, ⟨0, 0, 0⟩, 1, 1, 0, 0, 0, 0, 0, false, false,
          false, false⟩)

/-- The fields of a SET SIZE entry lie in their ranges, and `w` is its width (R29 check 1, section 2.1). -/
def SizeBody.InRange (b : SizeBody) (w : Width) : Prop :=
  b.product ≤ 4095 ∧ b.kind ≤ 1 ∧ b.width = w.mm ∧ 500 ≤ b.length ∧ b.length ≤ 4500 ∧ 1 ≤ b.units ∧ b.units ≤ 10

/-- A product code is in use: an occupied record has a line of it (R28). -/
def State.InUse (s : State) (product : Nat) : Prop := ∃ i o, s.order i = some o ∧ ∃ l ∈ o.lines, l.product = product

/-- The fields of a LOAD MAGAZINE body besides the magazine and the width lie in their ranges (R31). -/
def LoadBody.Right (b : LoadBody) : Prop :=
  0 < b.remaining ∧ (∀ t, b.low = some t → t ≤ 1800000) ∧ (∀ x ∈ b.base.toList, 20 ≤ x ∧ x ≤ 5000)
    ∧ ∀ z ∈ b.offset.toList, (-50 : Int) ≤ z ∧ z ≤ 50

/-- The fields of a SET PRICE entry lie in their ranges and its ending quantities rise strictly (R145 check 2). -/
def PriceBody.Right (b : PriceBody) : Prop :=
  b.product ≤ 4095 ∧ b.mode ≤ 1 ∧ b.tax < 4 ∧ 1 ≤ b.tiers.length ∧ b.tiers.length ≤ 4
    ∧ (∀ t ∈ b.tiers, 1 ≤ t.ending ∧ t.ending ≤ 9999 ∧ t.price ≤ 999999)
    ∧ b.tiers.Pairwise fun x y => x.ending < y.ending

/-- The bank is in use: the common bank, the selected bank, or one that an occupied record latched (R147). -/
def Pricing.BankUsed (p : Pricing) (bank : BankIx) : Prop :=
  bank = 0 ∨ bank = p.selected.succ ∨ ∃ k : SwBank, bank = k.succ ∧ 0 < p.latch[k]

/-- A bank of the book holds a code. -/
def Pricing.Has (p : Pricing) (bank : BankIx) (product : Nat) : Prop :=
  ∃ (j : Fin 32) (e : PriceEntry), p.book[bank][j] = some e ∧ e.product = product

/-- The code would stand twice: at another index of the bank, in a switchable bank for the common bank, or in the
common bank for a switchable one (R144, R145 check 4). -/
def Pricing.Twice (p : Pricing) (bank : BankIx) (ix : Fin 32) (product : Nat) : Prop :=
  (∃ (j : Fin 32) (e : PriceEntry), j ≠ ix ∧ p.book[bank][j] = some e ∧ e.product = product)
    ∨ (bank = 0 ∧ ∃ k : SwBank, p.Has k.succ product) ∨ (bank ≠ 0 ∧ p.Has 0 product)

/-- The fields of a SET PROMOTION entry that its match mode and kind call for lie in their ranges, and `p` is the entry
they spell (R149). -/
def PromoBody.Spells (b : PromoBody) (p : Promotion) : Prop :=
  b.code1 ≤ 4095 ∧ b.mask1 ≤ 4095 ∧ p.active = b.active ∧ p.classes = b.classes
    ∧ p.first = ⟨BitVec.ofNat 12 b.code1, BitVec.ofNat 12 b.mask1⟩
    ∧ ((b.matchMode = 0 ∧ p.second = none)
      ∨ (b.matchMode = 1 ∧ b.code2 ≤ 4095 ∧ b.mask2 ≤ 4095
        ∧ p.second = some ⟨BitVec.ofNat 12 b.code2, BitVec.ofNat 12 b.mask2⟩))
    ∧ ((b.kind = 0 ∧ b.p ≤ 10000 ∧ p.kind = .percent b.p) ∨ (b.kind = 1 ∧ b.a ≤ 999999 ∧ p.kind = .perPrint b.a)
      ∨ (b.kind = 2 ∧ 2 ≤ b.n ∧ b.n ≤ 20 ∧ 1 ≤ b.m ∧ b.m < b.n ∧ p.kind = .bundle b.n b.m))

/-- A name stands in a list of named values, or the old value is kept. -/
def named (entries : List (Nat × Nat)) (name old : Nat) : Nat := (entries.lookup name).getD old

/-- Every entry names one of the ten limits, with a value in the range of the table of section 10.4. -/
def LimitsInRange (entries : List (Nat × Nat)) : Prop :=
  ∀ e ∈ entries, (e.1 = 1 ∧ e.2 ≤ 15) ∨ (e.1 = 2 ∧ e.2 ≤ 8) ∨ (e.1 = 3 ∧ 20 ≤ e.2 ∧ e.2 ≤ 250)
    ∨ (e.1 = 4 ∧ 100 ≤ e.2 ∧ e.2 ≤ 1000) ∨ (e.1 = 5 ∧ e.2 ≤ 15) ∨ (e.1 = 6 ∧ 10 ≤ e.2 ∧ e.2 ≤ 600)
    ∨ (e.1 = 7 ∧ 1 ≤ e.2 ∧ e.2 ≤ 255) ∨ (e.1 = 8 ∧ 100 ≤ e.2 ∧ e.2 ≤ 10000) ∨ (e.1 = 9 ∧ 10 ≤ e.2 ∧ e.2 ≤ 100)
    ∨ (e.1 = 10 ∧ 5 ≤ e.2 ∧ e.2 ≤ 50)

/-- What an event's reactions may not touch: the engine, the prices, the transit list, the fault count and the causes,
and the tables and limits that requests write. The magazine records are not among them, since a changeover is asked
for and cut in the reactions. -/
structure State.SameTables (t s : State) : Prop where
  engine : t.engine = s.engine
  pricing : t.pricing = s.pricing
  link : t.link.rx = s.link.rx ∧ t.link.buffer = s.link.buffer ∧ t.link.replies = s.link.replies
    ∧ t.link.sending = s.link.sending
  orders : t.orders.seq = s.orders.seq ∧ t.orders.remakeLimit = s.orders.remakeLimit
  sched : t.sched.standardSlice = s.sched.standardSlice
  mags : t.mags.sizes = s.mags.sizes ∧ t.mags.drift = s.mags.drift
  expo : t.expo.miss = s.expo.miss ∧ t.expo.gap = s.expo.gap ∧ t.expo.readyTimeout = s.expo.readyTimeout
    ∧ t.expo.rx = s.expo.rx ∧ t.expo.portBusy = s.expo.portBusy
  web : t.web.stations = s.web.stations ∧ t.web.purge = s.web.purge
  cutter : t.cutter.count = s.cutter.count ∧ t.cutter.mark = s.cutter.mark ∧ t.cutter.check = s.cutter.check
    ∧ t.cutter.warningLimit = s.cutter.warningLimit ∧ t.cutter.markWindow = s.cutter.markWindow
  sorter : t.sorter.transit = s.sorter.transit ∧ t.sorter.timer = s.sorter.timer ∧ t.sorter.reject = s.sorter.reject
    ∧ t.sorter.needs = s.sorter.needs ∧ t.sorter.binCapacity = s.sorter.binCapacity
    ∧ t.sorter.bulkCapacity = s.sorter.bulkCapacity ∧ t.sorter.expressReserve = s.sorter.expressReserve
  stop : t.stop.causes = s.stop.causes ∧ t.stop.ret = s.stop.ret ∧ t.stop.latch = s.stop.latch
    ∧ t.stop.soakLimit = s.stop.soakLimit ∧ t.stop.patterns = s.stop.patterns ∧ t.stop.anyJam = s.stop.anyJam
  queue : t.pending = s.pending ∧ t.free = s.free

/-- The fields of a record that are fixed at admission (R2), with its kept products and quantities. -/
def Order.SameIdentity (a b : Order) : Prop :=
  a.number = b.number ∧ a.cls = b.cls ∧ a.customer = b.customer ∧ a.bank = b.bank ∧ a.credit = b.credit
    ∧ a.bulk = b.bulk ∧ a.seq = b.seq ∧ a.lines.map Line.product = b.lines.map Line.product
    ∧ a.lines.map Line.qty = b.lines.map Line.qty

/-- A notice is in the queue, or the queue was full before and the notice was dropped and counted (R181). -/
def State.Raised (t s : State) (n : Notice) : Prop :=
  n ∈ t.link.notices ∨ (32 ≤ s.link.notices.length ∧ t.link.lost = true)

/-- The state at the end of an event whose own effect gave `u`: its reactions made, the transmitters begun (log
entries 5 and 9). -/
def State.ended (u : State) : State := u.settle.finish

/-! ## The selection pass -/

/-- A line has a copy to call, or an owed one: its count exceeds the calls that name it and have not begun (R48). -/
def State.ToCall (s : State) (owed : Bool) (slot : Slot) (n : Nat) (l : Line) : Prop :=
  (s.expo.calls.filter fun c =>
    (c.state == .preparing || c.state == .ready) && c.slot == slot && c.line == n).length < if owed then l.owed else l.queued

/-- A copy of the line can be placed on the active magazine with size entry `z` (R49, R37). -/
def State.OnActive (s : State) (l : Line) (z : SizeEntry) : Prop :=
  s.lookupSize l.product = some z ∧ s.mags.change = .idle ∧ ∃ (m : MagId) (r : MagRec), s.mags.selector = some m
    ∧ s.mags.get m = some r ∧ r.state = .active ∧ r.width = z.width
    ∧ z.length + (if 127 < s.cutter.count then s.expo.gap + 30 else s.expo.gap) ≤ r.remaining

/-- A copy of the line can be placed on standby, with its width (R50). -/
def State.OnStandby (s : State) (l : Line) (w : Width) : Prop :=
  ∃ z, s.lookupSize l.product = some z ∧ z.width = w ∧ ∃ (m : MagId) (r : MagRec), s.mags.selector ≠ some m
    ∧ s.mags.get m = some r ∧ r.state = .loaded ∧ r.width = w

/-- The Sorter can serve the order now (R124). -/
def State.CanServe (s : State) (slot : Slot) (o : Order) : Prop :=
  ∃ n, s.sorter.needs[slot] = some n ∧
    if n.bulk then s.sorter.tray.state = .free
    else n.bins + (if o.cls = .standard then s.sorter.expressReserve else 0)
      ≤ (binNumbers.filter fun b => s.sorter.bins[b].state == .free).length

/-- The order is open for selection (R51). -/
def State.Open (s : State) (slot : Slot) (o : Order) : Prop :=
  o.held = false ∧ ((o.state = .printing ∧ (o.bins ≠ [] ∨ o.trayHeld = true)) ∨ (o.state = .waiting ∧ s.CanServe slot o))

/-- `c` is the first copy of the order, in line order, that is to call and can be placed on the active magazine
(R54, R55), with what is handed over for it (R57). -/
def State.FirstCopy (s : State) (owed : Bool) (slot : Slot) (o : Order) (c : Choice) : Prop :=
  c.copy.slot = slot ∧ o.line c.copy.line = some c.line ∧ s.ToCall owed slot c.copy.line c.line
    ∧ (∃ z, s.OnActive c.line z ∧ c.width = z.width ∧ c.length = z.length)
    ∧ c.gap = (if 127 < s.cutter.count then s.expo.gap + 30 else s.expo.gap)
    ∧ ∀ n l, n < c.copy.line → o.line n = some l → s.ToCall owed slot n l → ∀ z, ¬ s.OnActive l z

/-- No line of the order with a copy to call can be placed on the active magazine. -/
def State.NoneActive (s : State) (owed : Bool) (slot : Slot) (o : Order) : Prop :=
  ∀ n l, o.line n = some l → s.ToCall owed slot n l → ∀ z, ¬ s.OnActive l z

/-- `w` is the width of the first line of the order, in line order, that is to call and can be placed on standby. -/
def State.FirstPull (s : State) (owed : Bool) (slot : Slot) (o : Order) (w : Width) : Prop :=
  ∃ n l, o.line n = some l ∧ s.ToCall owed slot n l ∧ s.OnStandby l w
    ∧ ∀ k x, k < n → o.line k = some x → s.ToCall owed slot k x → ∀ v, ¬ s.OnStandby x v

/-- No line of the order with a copy to call can be placed on standby. -/
def State.NoneStandby (s : State) (owed : Bool) (slot : Slot) (o : Order) : Prop :=
  ∀ n l, o.line n = some l → s.ToCall owed slot n l → ∀ w, ¬ s.OnStandby l w

/-- What a walk may move: the bin-wait set, with its notices and its report to the annunciator (R56, R64, R65). -/
def State.SameButWaits (t s : State) : Prop :=
  t.orders = s.orders ∧ t.mags = s.mags ∧ t.expo = s.expo ∧ t.web = s.web ∧ t.cutter = s.cutter ∧ t.sorter = s.sorter
    ∧ t.pricing = s.pricing ∧ t.engine = s.engine ∧ t.stop.causes = s.stop.causes
    ∧ t.sched = { s.sched with binWait := t.sched.binWait }

/-! ## The layouts of the requests -/

/-- The kind and the body of a request, written from the layouts of section 10.9 and, where none is tabled, from the
fields its rule names in the sizes of R190. The reader of these bytes is `parseRequest`. -/
def Request.layout : Request → Byte × List Byte
  | .admitOrder b => (0x01#8, b2 b.number ++ b1 b.cls ++ b1 b.customer ++ b1 b.creditGiven ++ b4 b.credit
      ++ b1 b.indexGiven ++ b2 b.indexProduct ++ bl (b.lines.map fun l =>
        b2 l.product ++ b4 l.image ++ i1 l.corr.r ++ i1 l.corr.g ++ i1 l.corr.b ++ b2 l.qty))
  | .cancelOrder n => (0x02#8, b2 n)
  | .holdOrder n => (0x03#8, b2 n)
  | .releaseOrder n => (0x04#8, b2 n)
  | .acceptOrder n => (0x05#8, b2 n)
  | .queryOrder n first => (0x06#8, b2 n ++ b2 first)
  | .quoteOrder n first => (0x07#8, b2 n ++ b2 first)
  | .repriceOrder n => (0x08#8, b2 n)
  | .setSize ix e => (0x10#8, b1 ix
      ++ bo 9 (fun z : SizeBody => b2 z.product ++ b1 z.kind ++ b2 z.width ++ b2 z.length ++ b2 z.units) e)
  | .loadMagazine b => (0x11#8, b1 b.mag ++ b2 b.width ++ b4 b.remaining ++ bo 4 b4 b.low
      ++ b2 b.base.r ++ b2 b.base.g ++ b2 b.base.b ++ i1 b.offset.r ++ i1 b.offset.g ++ i1 b.offset.b)
  | .unloadMagazine m => (0x12#8, b1 m)
  | .setDrift d => (0x13#8, i1 d.r ++ i1 d.g ++ i1 d.b)
  | .setStations es => (0x14#8, bl (es.map fun e => b1 e.1 ++ b4 e.2))
  | .setLimits es => (0x15#8, bl (es.map fun e => b1 e.1 ++ b4 e.2))
  | .setFaultCount v => (0x16#8, b1 v)
  | .setPrice bank ix e => (0x18#8, b1 bank ++ b1 ix ++ b2 e.product ++ b1 e.mode
      ++ bl (e.tiers.map fun t => b2 t.ending ++ b4 t.price) ++ b1 e.tax)
  | .clearPrice bank ix => (0x19#8, b1 bank ++ b1 ix)
  | .setPromotion ix e => (0x1A#8, b1 ix ++ bo 27 (fun b : PromoBody =>
      bf b.active ++ b1 b.matchMode ++ b2 b.code1 ++ b2 b.mask1
        ++ bo 2 b2 (if b.matchMode = 1 then some b.code2 else none)
        ++ bo 2 b2 (if b.matchMode = 1 then some b.mask2 else none)
        ++ b2 b.classes.toNat ++ b1 b.kind ++ bo 2 b2 (if b.kind = 0 then some b.p else none)
        ++ bo 4 b4 (if b.kind = 1 then some b.a else none) ++ bo 1 b1 (if b.kind = 2 then some b.n else none)
        ++ bo 1 b1 (if b.kind = 2 then some b.m else none)) e)
  | .setTax c rate => (0x1B#8, b1 c ++ b2 rate)
  | .selectBank b => (0x1C#8, b1 b)
  | .setPattern c rates bz => (0x1D#8, b1 c ++ b1 rates ++ bf bz)
  | .silence => (0x1E#8, [])
  | .queryBins first => (0x20#8, b2 first)
  | .queryStatus part param first => (0x21#8, b1 part ++ b1 param ++ b2 first)
  | .enterSetup => (0x28#8, [])
  | .enterRun => (0x29#8, [])
  | .pause => (0x2A#8, [])
  | .continueRun => (0x2B#8, [])
  | .resume => (0x2C#8, [])
  | .cutterRestart => (0x2D#8, [])
  | .restart => (0x2E#8, [])

/-- Three numbers fit in signed bytes. -/
def FitsSigned (x : Rgb Int) : Prop := ∀ z ∈ x.toList, (-128 : Int) ≤ z ∧ z ≤ 127

/-- Every named value of a list fits in one byte and four, and the list's count in one. -/
def FitsNamed (es : List (Nat × Nat)) : Prop := es.length < 256 ∧ ∀ e ∈ es, e.1 < 256 ∧ e.2 < 4294967296

/-- Every field of a request fits in its size, and a field that the match mode or the kind of a promotion leaves out is
0 (section 10.9, R190). -/
def Request.Fits : Request → Prop
  | .admitOrder b => b.number < 65536 ∧ b.cls < 256 ∧ b.customer < 256 ∧ b.creditGiven < 256 ∧ b.credit < 4294967296
      ∧ b.indexGiven < 256 ∧ b.indexProduct < 65536 ∧ b.lines.length < 256
      ∧ ∀ l ∈ b.lines, l.product < 65536 ∧ l.image < 4294967296 ∧ FitsSigned l.corr ∧ l.qty < 65536
  | .cancelOrder n | .holdOrder n | .releaseOrder n | .acceptOrder n | .repriceOrder n | .queryBins n => n < 65536
  | .queryOrder n first | .quoteOrder n first => n < 65536 ∧ first < 65536
  | .setSize ix e => ix < 256 ∧ ∀ z, e = some z →
      z.product < 65536 ∧ z.kind < 256 ∧ z.width < 65536 ∧ z.length < 65536 ∧ z.units < 65536
  | .loadMagazine b => b.mag < 256 ∧ b.width < 65536 ∧ b.remaining < 4294967296
      ∧ (∀ t, b.low = some t → t < 4294967296) ∧ (∀ x ∈ b.base.toList, x < 65536) ∧ FitsSigned b.offset
  | .unloadMagazine m | .setFaultCount m | .selectBank m => m < 256
  | .setDrift d => FitsSigned d
  | .setStations es | .setLimits es => FitsNamed es
  | .setPrice bank ix e => bank < 256 ∧ ix < 256 ∧ e.product < 65536 ∧ e.mode < 256 ∧ e.tax < 256
      ∧ e.tiers.length < 256 ∧ ∀ t ∈ e.tiers, t.ending < 65536 ∧ t.price < 4294967296
  | .clearPrice bank ix => bank < 256 ∧ ix < 256
  | .setPromotion ix e => ix < 256 ∧ ∀ b, e = some b →
      b.matchMode < 256 ∧ b.code1 < 65536 ∧ b.mask1 < 65536 ∧ b.code2 < 65536 ∧ b.mask2 < 65536 ∧ b.kind < 256
      ∧ b.p < 65536 ∧ b.a < 4294967296 ∧ b.n < 256 ∧ b.m < 256
      ∧ (b.matchMode ≠ 1 → b.code2 = 0 ∧ b.mask2 = 0) ∧ (b.kind ≠ 0 → b.p = 0) ∧ (b.kind ≠ 1 → b.a = 0)
      ∧ (b.kind ≠ 2 → b.n = 0 ∧ b.m = 0)
  | .setTax c rate => c < 256 ∧ rate < 65536
  | .setPattern c rates _ => c < 256 ∧ rates < 256
  | .queryStatus part param first => part < 256 ∧ param < 256 ∧ first < 65536
  | .silence | .enterSetup | .enterRun | .pause | .continueRun | .resume | .cutterRestart | .restart => True

/-! ## What an event leaves -/

/-- The paper after an encoder event of this distance that crosses no threshold: the ACTIVE roll the selector names is
shorter by it, and with no ACTIVE roll named no magazine changes (R35). -/
def State.PaperMoved (s : State) (d : Nat) (g : Magazines) : Prop :=
  (∃ (m : MagId) (r : MagRec), s.mags.selector = some m ∧ s.mags.get m = some r ∧ r.state = .active
      ∧ (r.low ≤ r.remaining - d ∨ r.lowReported = true) ∧ 0 < r.remaining - d
      ∧ g = s.mags.put m (some { r with remaining := r.remaining - d }))
    ∨ ((∀ (m : MagId) (r : MagRec), s.mags.selector = some m → s.mags.get m = some r → r.state ≠ .active) ∧ g = s.mags)

/-- The state in which the other parts of an encoder event begin: every segment and the mark moved, the paper as given,
the marks of the mark strips written whose trail has come to the exposure line (R93, R35, R106, R116). -/
def State.movedBy (s : State) (d : Nat) (g : Magazines) : State :=
  { s.fresh with
    lines := { s.lines with strobes := s.lines.strobes ++ (s.web.queue.filter fun x => x.kind == .markStrip
      && decide (x.lead - (x.length : Int) < 0 ∧ 0 ≤ x.lead - (x.length : Int) + (d : Int))).map fun x => .markWritten x.sid }
    web := { s.web with queue := s.web.queue.map fun x => { x with lead := x.lead + (d : Int) } }
    mags := g
    cutter := { s.cutter with mark := s.cutter.mark.map fun k => { k with m := min (k.m + d) 200000 } } }

/-- The end of an encoder event whose parts gave `u`: the head, the strip entry and the transport are looked at again
(R93, R76, R116, R94). -/
def State.encoderEnded (u : State) : State := State.ended (State.transportTest (State.stripTest (State.headTest u)))

/-- A notice is in the queue, or a notice has been lost since the queue was last sent out (R181). -/
def State.Queued (t : State) (n : Notice) : Prop := n ∈ t.link.notices ∨ t.link.lost = true

/-- How many of these copies are of line `n` of the order in `slot`. -/
def copiesOf (cs : List Copy) (slot : Slot) (n : Nat) : Nat := (cs.filter fun c => c.slot == slot && c.line == n).length

/-- The order after copies of it have been taken off the web and are owed again (R24 for jam, soak and halt voids). -/
def Order.owing (o : Order) (slot : Slot) (cs : List Copy) : Order :=
  { o with lines := o.lines.mapIdx fun i l =>
      let k := copiesOf cs slot (i + 1)
      { l with queued := l.queued + k, owed := l.owed + k, onWeb := l.onWeb - k } }

/-- Every copy in the list is of a line of its order, which counts it as on the web. -/
def State.Counted (s : State) (cs : List Copy) : Prop :=
  (∀ slot o n l, s.order slot = some o → o.state = .printing → o.line n = some l → copiesOf cs slot n ≤ l.onWeb)
    ∧ ∀ c ∈ cs, ∀ o, s.order c.slot = some o → o.state = .printing → o.line c.line ≠ none

/-- The notices of a move of the fault count from `old` to `new`: CUTTER WARNING where it reaches the warning limit from
below, CUTTER BLIND where it rises above 127, CUTTER MARKED where it falls to 127 or less (R113). -/
def countNotices (old new lim : Nat) : List Notice :=
  (if old < lim ∧ lim ≤ new then [.cutterWarning new lim] else [])
    ++ (if old ≤ 127 ∧ 127 < new then [.cutterBlind new lim] else [])
    ++ (if 127 < old ∧ new ≤ 127 then [.cutterMarked new lim] else [])

/-- The blade's move for a segment: at the mark detected last, or at the segment's trail (R109, R116). -/
def State.bladeMove (s : State) (g : Segment) (atMark : Prop) [Decidable atMark] : Strobe :=
  if atMark then .bladeAtMark ((s.cutter.mark.map Mark.m).getD 0)
  else .bladeAtTrail (g.lead - g.length - s.web.stations.cut)

/-- The oldest of these segments is short of the blade: its trail has not come to CUT_POS (R96). -/
def State.ShortOfBlade (s : State) (rest : List Segment) : Prop :=
  ∀ x, rest.head? = some x → x.lead - (x.length : Int) < s.web.stations.cut

/-- The segments are the same but for their voids. -/
def SameButVoids (xs ys : List Segment) : Prop :=
  xs.map (fun x : Segment => { x with void := none }) = ys.map fun y : Segment => { y with void := none }

/-- With an encoder event of this distance nothing begins or ends at the exposure line: no call is there, or the
trailing segment's trail stays short of the line, until which no call may begin (R79, R76). -/
def State.HeadQuiet (s : State) (d : Nat) : Prop :=
  (s.expo.calls = [] ∧ s.expo.trailing = none)
    ∨ ∃ sid x, s.expo.trailing = some sid ∧ s.segment sid = some x ∧ x.lead - (x.length : Int) + (d : Int) < 0

/-- The send queue of the raster port after a CALL CANCEL has been raised: while the FRAME CALL of the same tag waits
unsent it is removed and nothing is queued, else the CALL CANCEL is (R70). `busy` says that the first record of the
queue is being sent. -/
def portCancel (busy : Bool) (port : List PortRecord) (tag : Nat) : List PortRecord :=
  let begun := if busy then port.take 1 else []
  let unsent := if busy then port.drop 1 else port
  if unsent.any (PortRecord.isCallOf tag) then begun ++ unsent.filter (fun r => !r.isCallOf tag)
  else port ++ [.callCancel tag]

/-- The counts of a line add up, and owed is a part of queued (R22). -/
def Line.Adds (l : Line) : Prop := l.qty = l.queued + l.onWeb + l.delivered + l.cancelled ∧ l.owed ≤ l.queued

/-- Every line of every occupied record adds up (R22). -/
def State.CountsInv (s : State) : Prop := ∀ slot o, s.order slot = some o → ∀ l ∈ o.lines, l.Adds

/-- A halt cause has been taken, as the engine state in force takes it. In RUN, PAUSED and RECOVERY it is the first, the
engine is HALTED with that return state and only calls awaiting their DONE run on (R163, R164); in HALTED it joins the
set unless it is there (R165); in SETUP it is not added (R163). A cause added queues a HALTED notice behind all else. -/
structure State.CauseTaken (s u : State) (cause : HaltCause) : Prop where
  first : s.engine.state = .run ∨ s.engine.state = .paused ∨ s.engine.state = .recovery → s.stop.causes = [] →
    u.engine = { s.engine with state := .halted } ∧ u.stop.causes = [cause] ∧ u.stop.ret = some s.engine.state
    ∧ u.web.transport = .stopped ∧ u.web.purge = none ∧ (∀ c ∈ u.expo.calls, c.state = .awaitingDone)
    ∧ (u.link.lost = true ∨ u.link.notices.getLast? = some (.halted cause [cause] s.engine.state none))
  joins : s.engine.state = .halted → cause ∉ s.stop.causes →
    u.engine = s.engine ∧ u.stop.causes = s.stop.causes ++ [cause] ∧ u.stop.ret = s.stop.ret
    ∧ ∀ r, s.stop.ret = some r →
      u.link.lost = true ∨ u.link.notices.getLast? = some (.halted cause (s.stop.causes ++ [cause]) r none)
  there : s.engine.state = .halted → cause ∈ s.stop.causes →
    u.engine = s.engine ∧ u.stop.causes = s.stop.causes ∧ u.stop.ret = s.stop.ret
  idle : s.engine.state = .setup → u.engine = s.engine ∧ u.stop.causes = s.stop.causes ∧ u.stop.ret = s.stop.ret

/-- A bin or the tray that has left its order, FREE or STALE (R139, R140). -/
def Bin.cleared (b : Bin) (st : BinState) : Bin := { b with state := st, owner := none, pos := none, used := 0 }

/-- A bin or the tray of an order whose places have gone READY: FREE where it reads empty (R138, R139). -/
def Bin.madeReady (b : Bin) : Bin := if b.occupied = true then { b with state := .ready } else b.cleared .free

/-- The bins of the chain that the order keeps when its places go READY: those that do not read empty (R139). -/
def State.keptBins (s : State) (slot : Slot) (o : Order) : List ChainEntry :=
  o.bins.filter fun e => !(s.sorter.bins[e.bin].ownedBy slot && !s.sorter.bins[e.bin].occupied)

/-- The tray is kept in the same way (R139). -/
def State.keepsTray (s : State) (slot : Slot) (o : Order) : Bool :=
  o.trayHeld && !(s.sorter.tray.ownedBy slot && !s.sorter.tray.occupied)

/-- From `s` to `u` the record of `o` has been freed, with its need record and its place in the latch count (R1, R122,
R147). -/
def State.Freed (s u : State) (slot : Slot) (o : Order) : Prop :=
  u.order slot = none ∧ u.sorter.needs = s.sorter.needs.set slot none
    ∧ u.pricing.latch = s.pricing.latch.set o.bank (s.pricing.latch[o.bank] - 1)

/-- From `s` to `u` the last segment or item of the order in `slot` has left, whose record was `o` until then: a
collected READY or CANCELLED record is freed with its notice, CANCELLING ends, any other record stays with the count 0
(R15, R14, R19). `at'` gives the bins and the tray as the rest of the event leaves them. -/
structure State.LastLeft (s u : State) (slot : Slot) (o : Order) (at' : Container → Bin) : Prop where
  collected : o.state = .ready ∨ o.state = .cancelled → o.bins = [] → o.trayHeld = false → s.Freed u slot o
    ∧ u.Queued (if o.state = .ready then .orderCollected o.number else .orderCancelled o.number) ∧ ∀ p, u.place p = at' p
  stays : o.state ≠ .cancelling → (o.state = .ready ∨ o.state = .cancelled → o.bins ≠ [] ∨ o.trayHeld = true) →
    u.order slot = some { o with inFlight := 0 } ∧ ∀ p, u.place p = at' p
  nothing : o.state = .cancelling → (∀ l ∈ o.lines, l.delivered = 0) → s.Freed u slot o
    ∧ u.Queued (.orderCancelled o.number)
    ∧ ∀ p, u.place p = if (s.place p).ownedBy slot = true
        then (at' p).cleared (if (s.place p).occupied = true then .stale else .free) else at' p
  something : o.state = .cancelling → (∃ l ∈ o.lines, l.delivered ≠ 0) →
    (∀ p, u.place p = if (s.place p).ownedBy slot = true then (at' p).madeReady else at' p)
    ∧ (s.keptBins slot o = [] ∧ s.keepsTray slot o = false → s.Freed u slot o ∧ u.Queued (.orderCancelled o.number))
    ∧ (¬ (s.keptBins slot o = [] ∧ s.keepsTray slot o = false) → u.order slot =
        some { o with state := .cancelled, bins := s.keptBins slot o, trayHeld := s.keepsTray slot o, inFlight := 0 })

/-- The distance target of a purge that begins with this queue (R100). -/
def State.purgeDistance (s : State) : Int :=
  match s.web.queue.getLast? with
  | some g => if g.lead - (g.length : Int) < 0 then s.web.stations.cut + 2000 - (g.lead - g.length)
    else s.web.stations.cut + 2000
  | none => s.web.stations.cut + 2000

/-- From `s` to `u` a purge has begun over the open check of the front segment `g`: the check is abandoned with no move
of the count or of the recovery record, and the segment is cut to waste in the same event, voided first when it is
live (R100, R111, R107, R97). -/
structure State.PurgeOverCheck (s u : State) (g : Segment) (rest : List Segment) : Prop where
  web : u.web = { s.web with queue := rest, purge := some ⟨s.purgeDistance, 0⟩ }
  cutter : u.cutter = { s.cutter with check := none, chop := 0 }
  strobes : u.lines.strobes = s.lines.strobes ++ [.bladeAtTrail (g.lead - g.length - s.web.stations.cut)]
  rest : u.sorter.transit = s.sorter.transit ∧ u.mags = s.mags ∧ u.expo = { s.expo with miss := u.expo.miss }
  strip : g.copy = none → u.orders = s.orders ∧ u.sorter = s.sorter ∧ u.sched = s.sched ∧ u.link.notices = s.link.notices
  others : ∀ c, g.copy = some c → ∀ i, i ≠ c.slot → u.order i = s.order i
  void : ∀ c o, g.copy = some c → g.void ≠ none → s.order c.slot = some o →
    (2 ≤ o.inFlight → u.order c.slot = some { o with inFlight := o.inFlight - 1 } ∧ u.sorter = s.sorter
      ∧ u.link.notices = s.link.notices)
    ∧ (o.inFlight ≤ 1 → s.LastLeft u c.slot o s.place)
  live : ∀ c o, g.copy = some c → (g.kind = .print ∨ g.kind = .index) → g.void = none → s.order c.slot = some o →
    o.state = .printing → s.CountsInv → s.Counted [c] → u.order c.slot = some { o.owing c.slot [c] with inFlight := o.inFlight - 1 } ∧ u.sorter = s.sorter
      ∧ u.link.notices = s.link.notices ∧ (o.owedTotal = 0 → c.slot ∈ u.sched.remake)

/-! ## Invariants -/

/-- The transmitter sends the oldest of something that waits, and is idle only when nothing waits (R180). -/
def Link.busyRight (l : Link) : Prop :=
  match l.sending with
  | .nothing => l.replies = [] ∧ l.notices = []
  | .reply => l.replies ≠ []
  | .notice => l.notices ≠ []

/-- The link's queues keep their sizes, and the transmitter is idle only when nothing waits (R178, R180, R181). -/
def State.LinkInv (s : State) : Prop :=
  s.link.buffer.length ≤ 4 ∧ s.link.replies.length ≤ 8 ∧ s.link.notices.length ≤ 32 ∧ s.link.dropped ≤ 65535
    ∧ s.link.busyRight

/-- The bounded counts lie in their ranges: the calls (R73), the miss count (R83), the slice counter and its limit
(R60), the web queue (R90), the fault count (R112), the mark memory (R106), the distance of a purge (R101) and the one
since its last chop (R107), the strips entered (R116), the counts of a recovery (R117: a recovery in hand has checked
fewer marks than its cap, and returns to another state), the transit list (R128), the reject count (R141), the raster
tag (R71), the admit sequence number (R1), the quantity of a line (R6) and its remakes (R25), the units of a bin and of
the tray (R123), the paper of a magazine (R31), the place of the envelopes (R173). -/
structure State.BoundsInv (s : State) : Prop where
  calls : s.expo.calls.length ≤ 2
  miss : s.expo.miss ≤ 3
  tag : s.expo.lastTag ≤ 65535
  limit : s.sched.standardSlice ≤ 15
  slice : s.sched.slice ≤ 15
  queue : s.web.queue.length ≤ 192
  count : s.cutter.count ≤ 255
  mark : ∀ k, s.cutter.mark = some k → k.m ≤ 200000
  purge : ∀ p, s.web.purge = some p → p.moved ≤ 200000
  strips : s.cutter.recovery.entered ≤ 1024
  transit : s.sorter.transit.length ≤ 8
  reject : s.sorter.reject ≤ 65535
  recovery : s.cutter.recovery.runLength ≤ 128 ∧ s.cutter.recovery.remaining ≤ 128 ∧ s.cutter.recovery.checked ≤ 1024
  attempt : s.cutter.recovery.ret ≠ .recovery ∧ (s.engine.state = .recovery → s.cutter.recovery.checked < 1024)
  remakeLimit : s.orders.remakeLimit ≤ 15
  remakes : ∀ slot o, s.order slot = some o → ∀ l ∈ o.lines, l.remakesUsed ≤ 15 ∧ l.qty ≤ 999
  seq : s.orders.seq ≤ 4294967295
  chop : s.cutter.chop < 1000
  phase : s.stop.phase < 16
  units : ∀ p : Container, (s.place p).used ≤ 65535 ∧ (s.place p).routed ≤ 65535
  paper : ∀ (m : MagId) (r : MagRec), s.mags.get m = some r → r.remaining ≤ 1800000

/-- Of two segments on the web queue the one entered first lies wholly downstream of the other, so none overlap and
they stand in exposure order (R91); the names are given out once. -/
def State.WebInv (s : State) : Prop :=
  s.web.queue.Pairwise (fun older younger => younger.lead ≤ older.trail ∧ older.sid < younger.sid)
    ∧ ∀ g ∈ s.web.queue, g.sid < s.web.nextSid

/-- A state to which a halt or a recovery may return (R163, R115). -/
def EngineState.returnable (e : EngineState) : Prop := e = .run ∨ e = .paused

/-- The engine is HALTED exactly while the halt cause set holds a cause and a return state is remembered (section 9.1,
R163, R165, R170). -/
structure State.HaltInv (s : State) : Prop where
  halted : s.engine.state = .halted ↔ s.stop.causes ≠ []
  once : s.stop.causes.Nodup
  remembered : s.engine.state = .halted ↔ s.stop.ret.isSome = true
  ret : ∀ e, s.stop.ret = some e → e.returnable ∨ e = .recovery
  recovery : s.cutter.recovery.ret.returnable

/-- The transport is what the engine state and the keep-running conditions call for, and the drive follows it unless
the RESET line holds the outputs released (R94, R188). -/
def State.TransportInv (s : State) : Prop :=
  s.web.transport = s.transportFor
    ∧ (s.engine.resetAsserted = false → s.lines.transportDrive = (s.web.transport == .running))

/-- A bin or the tray has an owner exactly while it is OWNED or READY, and reads empty while it is FREE (section
7.2). -/
def Bin.Right (b : Bin) : Prop :=
  (b.owner.isSome = true ↔ b.state = .owned ∨ b.state = .ready) ∧ (b.state = .free → b.occupied = false)

/-- Every bin and the tray are right, outside an asserted RESET line (section 7.2; log entry 18). -/
def State.BinInv (s : State) : Prop := s.engine.resetAsserted = false → ∀ p : Container, (s.place p).Right

/-- The bin table and the order records agree (R123): every entry of an order's chain names a bin that the order owns at
that position, and every bin that an order owns stands in its chain; the order owns the tray exactly while it holds it;
an order has at most 4 bins with distinct positions and none beside the tray; a WAITING order holds nothing, and nothing
is owned by a free slot. The bins of standard orders with the express reserve are no more than the 24 bins (R125). -/
structure State.OwnerInv (s : State) : Prop where
  chains : ∀ slot o, s.order slot = some o → ∀ e ∈ o.bins,
    s.sorter.bins[e.bin].ownedBy slot = true ∧ s.sorter.bins[e.bin].pos = some e.pos
  owned : ∀ slot o, s.order slot = some o → ∀ b : BinIx, s.sorter.bins[b].ownedBy slot = true → ∃ e ∈ o.bins, e.bin = b
  once : ∀ slot o, s.order slot = some o → (o.bins.map ChainEntry.bin).Nodup ∧ (o.bins.map ChainEntry.pos).Nodup
  four : ∀ slot o, s.order slot = some o → o.bins.length ≤ 4 ∧ (o.trayHeld = true → o.bins = [])
  needs : ∀ slot n, s.sorter.needs[(slot : Slot)] = some n → n.bulk = false → n.bins ≤ 4
  tray : ∀ slot o, s.order slot = some o → (s.sorter.tray.ownedBy slot = true ↔ o.trayHeld = true)
  waiting : ∀ slot o, s.order slot = some o → o.state = .waiting → o.bins = [] ∧ o.trayHeld = false
  vacant : ∀ slot, s.order slot = none → ∀ p : Container, (s.place p).ownedBy slot = false
  reserve : s.standardOwned + s.sorter.expressReserve ≤ 24

/-- The number of occupied records that latched a bank (R147). -/
def State.latched (s : State) (k : SwBank) : Nat :=
  (slots.filter fun i => (s.order i).any fun o => o.bank == k).length

/-- Each latch count is the number of occupied records that latched its bank (R147). -/
def State.LatchInv (s : State) : Prop := ∀ k : SwBank, s.pricing.latch[k] = s.latched k

/-- A slot has a need record exactly while it is occupied (R122). -/
def State.NeedInv (s : State) : Prop := ∀ i : Slot, (s.sorter.needs[i]).isSome = (s.order i).isSome

end Sys2Proof.Machine
end

