-- ==== Sys2Proof/Certificates/Slice0/Obligations.lean ====
section
/-! DEFINITION. The statements about the model that the provers are asked for. -/

open Sys2Proof Sys2Proof.Machine

/-! ## The machine -/

/-- The step takes the command at the front of the queue and answers what it does to the state with the queue's rest;
with an empty queue it idles, which is the model's choice (log entry 1). -/
def Obligations.StepRunsFrontCommand : Prop :=
  (∀ (c : Instr) (rest : List Instr) (s : State),
    step { s with pending := c :: rest } = exec c { s with pending := rest })
  ∧ ∀ s : State, s.pending = [] → step s = .next s

/-- Every command completes in every state: it answers a next state, which keeps the queue of the waiting commands. That
an event which is not due in a state answers a next state too is the model's choice (log entry 3), and the queue is the
model's own (log entries 1 and 21). -/
def Obligations.EveryCommandAnswersNext : Prop :=
  ∀ (c : Instr) (s : State), ∃ t, exec c s = .next t ∧ t.pending = s.pending

/-- The state after reset meets every invariant, and it holds the power-on values of every block. That no command waits
(log entry 21) and that every sensor reads clear or empty (log entry 19) are the model's choices. -/
def Obligations.ResetStateIsRight : Prop :=
  (State.reset.LinkInv ∧ State.reset.CountsInv ∧ State.reset.BoundsInv ∧ State.reset.WebInv ∧ State.reset.HaltInv
    ∧ State.reset.TransportInv ∧ State.reset.BinInv ∧ State.reset.OwnerInv ∧ State.reset.LatchInv ∧ State.reset.NeedInv)
  ∧ (State.reset.AtPowerOn State.reset .powerOn ∧ State.reset.pending = [])

/-- The link's queues keep their sizes, and the transmitter is idle only while nothing waits (R178, R180, R181; that it
is idle so is read from R180, log entry 9). The bounded counts stay in their ranges: calls, miss count, tag, slice
counter, web queue, fault count, mark memory, purge and chop distances, the counts of a recovery, transit list, reject
count, admit sequence number, quantity and remakes of a line, units of a place, paper of a magazine, envelopes. -/
def Obligations.LinkAndBoundsInvariant : Prop :=
  (∀ s t : State, s.LinkInv → step s = .next t → t.LinkInv)
  ∧ (∀ s t : State, s.BoundsInv → step s = .next t → t.BoundsInv)

/-- Every line adds up, and owed never exceeds queued (R22). -/
def Obligations.CountsInvariant : Prop :=
  ∀ s t : State, s.CountsInv → step s = .next t → t.CountsInv

/-- Segments never overlap, and the queue stands in exposure order (R91). -/
def Obligations.WebInvariant : Prop :=
  ∀ s t : State, s.WebInv → step s = .next t → t.WebInv

/-- The engine is HALTED exactly while the halt cause set holds a cause and a return state is remembered. -/
def Obligations.HaltInvariant : Prop :=
  ∀ s t : State, s.HaltInv → step s = .next t → t.HaltInv

/-- The transport is always the one that the engine state and the keep-running conditions call for (R94). -/
def Obligations.TransportInvariant : Prop :=
  ∀ s t : State, s.TransportInv → step s = .next t → t.TransportInv

/-- A bin has an owner exactly while it is OWNED or READY, and reads empty while it is FREE. The bin table and the bin
chains of the orders agree: every entry of a chain names a bin that the order owns at that position, and every bin
that an order owns stands in its chain; an order has at most 4 bins or the tray, and the bins of standard orders leave
the express reserve (R123, R125). The latch counts count the records that latched each bank (R147), and the need
records are those of the occupied slots (R122). -/
def Obligations.BinsAndLatchesInvariant : Prop :=
  (∀ s t : State, s.BinInv → step s = .next t → t.BinInv)
  ∧ (∀ s t : State, s.OwnerInv → step s = .next t → t.OwnerInv)
  ∧ (∀ s t : State, s.LatchInv → s.NeedInv → step s = .next t → t.LatchInv ∧ t.NeedInv)

/-! ## Resets -/

/-- The end of power-on and of the RESET line: every block at its power-on values, with the default patterns and the
zero counts of the recovery record, and STARTED queued (R188, R174, R118). The purge record that holds no distances
while it is OFF is the model's choice (log entry 22), and so is that POWER_ON keeps an asserted RESET line asserted
(log entry 18). The asserted RESET line: every output released, and from then on nothing is taken but the resets and,
as the model's choice (log entry 18), the levels of the sensors. -/
def Obligations.ResetsOfPowerOnAndLine : Prop :=
  (∀ s : State,
    (∃ t, exec .powerOn s = .next t ∧ t.AtPowerOn s .powerOn ∧ t.engine.resetAsserted = s.engine.resetAsserted
      ∧ t.pending = s.pending)
    ∧ ∃ t, exec .resetLine s = .next t ∧ t.AtPowerOn s .resetLine ∧ t.engine.resetAsserted = false
      ∧ t.pending = s.pending)
  ∧ ((∀ s : State, exec .resetLineAsserted s =
    .next { s with engine := { s.engine with resetAsserted := true }, lines := Lines.released })
  ∧ (∀ (c : Instr) (s : State), s.engine.resetAsserted = true → actsInReset c = false → exec c s = .next s)
  ∧ (∀ (j : JamSensor) (s : State), s.engine.resetAsserted = true →
      exec (.jamSensorAsserted j) s = .next { s with stop := s.stop.setLevel j true }
      ∧ exec (.jamSensorClear j) s = .next { s with stop := s.stop.setLevel j false })
  ∧ ∀ (p : Container) (s : State), s.engine.resetAsserted = true →
      exec (.presenceEmpty p) s = .next (s.putPlace p { s.place p with occupied := false })
      ∧ exec (.presenceOccupied p) s = .next (s.putPlace p { s.place p with occupied := true }))

/-- RESTART is accepted in every engine state; its reply is queued, and no request is taken until it has been sent
(R187). When the reply to RESTART has been sent, every block takes its RESTART values, the raster port among them: its
receiver hunts and its send queue keeps the record that has begun alone (R187, R70). -/
def Obligations.RestartRequest : Prop :=
  (∀ (s : State) (f : Frame) (rest : List Frame), s.Offers f rest .restart →
    exec .restart s = .next (s.answered rest (accepts f []))
    ∧ ∀ c : Instr, isRequestRow c = true →
        exec c (s.answered rest (accepts f [])) = .next (s.answered rest (accepts f [])))
  ∧ (∀ (s : State) (r : Reply) (rest : List Reply), s.engine.resetAsserted = false → s.link.sending = .reply →
    s.link.replies = r :: rest → r.request = 0x2E#8 → r.refusal = none →
    ∃ t, exec .frameSent s = .next t ∧ t.AtRestart s)

/-! ## The order link -/

/-- The receiver reads back every frame that can be sent, whatever its kind, tag and body, and skips what is not one
(R177). Every request whose fields fit in their sizes is read back from its layout, whatever the tag: the bytes that
section 10.9 and R190 lay out for it, and, where those leave the layout open, the model's choice of them: the size and
the zeros of an absent entry (log entry 13), the presence bytes of SET PROMOTION and which of its fields count (log
entries 15 and 44). -/
def Obligations.ReceiverReadsFrames : Prop :=
  (∀ (kind tag : Byte) (body : List Byte), body.length ≤ 256 →
    rxFeed none (frameBytes kind tag body) = (none, [.frame ⟨kind, tag, body⟩]))
  ∧ (∀ bytes : List Byte, 0xA5#8 ∉ bytes → rxFeed none bytes = (none, []))
  ∧ (∀ (kind tag : Byte) (body : List Byte) (h l : Byte), body.length ≤ 256 →
      be16 h l ≠ (crc (frameCore kind tag body)).toNat →
      rxFeed none (0xA5#8 :: frameCore kind tag body ++ [h, l]) = (none, [.bad]))
  ∧ ∀ (r : Request) (tag : Byte), r.Fits → parseRequest ⟨r.layout.1, tag, r.layout.2⟩ = some r

/-- A frame that passes its check joins the receive buffer, or is answered BUSY when the buffer holds 4 frames (R178).
A frame with an impossible length, with a false check, or incomplete for more than 10 ms is discarded with a FRAME
ERROR reply of tag 0; other bytes are skipped while the receiver hunts (R177). The request-kind byte 0 of the reply is
the model's choice (log entry 10). -/
def Obligations.RequestFramesAreReceived : Prop :=
  (∀ (s : State) (kind tag : Byte) (body : List Byte), s.engine.resetAsserted = false → s.link.rx = none →
    body.length ≤ 256 →
    (s.link.buffer.length < 4 →
      exec (.requestFrame (frameBytes kind tag body)) s =
        .next { s with link := { s.link with buffer := s.link.buffer ++ [⟨kind, tag, body⟩] }, due := Due.none })
    ∧ (4 ≤ s.link.buffer.length →
      exec (.requestFrame (frameBytes kind tag body)) s = .next (s.replied ⟨tag, kind, some .busy, []⟩)))
  ∧ ((∀ (s : State) (h l : Byte), s.engine.resetAsserted = false → s.link.rx = none →
    (be16 h l < 2 ∨ 258 < be16 h l) →
    exec (.requestFrame [0xA5#8, h, l]) s = .next (s.replied ⟨0, 0, some .frameError, []⟩))
  ∧ (∀ (s : State) (kind tag : Byte) (body : List Byte) (h l : Byte), s.engine.resetAsserted = false →
    s.link.rx = none → body.length ≤ 256 → be16 h l ≠ (crc (frameCore kind tag body)).toNat →
    exec (.requestFrame (0xA5#8 :: frameCore kind tag body ++ [h, l])) s =
      .next (s.replied ⟨0, 0, some .frameError, []⟩))
  ∧ (∀ (s : State) (got : List Byte), s.engine.resetAsserted = false → s.link.rx = some got →
    exec .frameTimeout s =
      .next (State.replied { s with link := { s.link with rx := none } } ⟨0, 0, some .frameError, []⟩))
  ∧ ∀ (s : State) (bytes : List Byte), s.engine.resetAsserted = false → s.link.rx = none → 0xA5#8 ∉ bytes →
    exec (.requestFrame bytes) s = .next { s with due := Due.none })

/-- What has been sent leaves its list and the transmitter begins the next reply, or else the next notice; the last
notice sent with NOTICES LOST set makes room for the notice of the loss (R180, R181). That a frame sent while nothing
is being sent changes nothing is the model's choice (log entry 3). -/
def Obligations.FrameSentBeginsTheNext : Prop :=
  ∀ s : State, s.engine.resetAsserted = false →
    (∀ (r : Reply) (rest : List Reply), s.link.sending = .reply → s.link.replies = r :: rest →
      ¬ (r.request = 0x2E#8 ∧ r.refusal = none) →
      exec .frameSent s = .next { s with
        link := { s.link with replies := rest, sending := nextSending .nothing rest s.link.notices }
        due := Due.none })
    ∧ (∀ (n : Notice) (rest : List Notice), s.link.sending = .notice → s.link.notices = n :: rest →
      (s.link.lost = false ∨ rest ≠ []) →
      exec .frameSent s = .next { s with
        link := { s.link with notices := rest, sending := nextSending .nothing s.link.replies rest }
        due := Due.none })
    ∧ (∀ n : Notice, s.link.sending = .notice → s.link.notices = [n] → s.link.lost = true →
      exec .frameSent s = .next { s with
        link := { s.link with
          notices := [.noticesLost s.link.dropped], lost := false, dropped := 0
          sending := nextSending .nothing s.link.replies [.noticesLost s.link.dropped] }
        due := Due.none })
    ∧ (s.link.sending = .nothing → exec .frameSent s = .next { s with due := Due.none })

/-- The oldest frame is refused with MALFORMED when it is no well-formed request, such as one whose kind is not in the
catalogue; a well-formed one is left to its own row, which is the model's choice (log entry 3). -/
def Obligations.MalformedIsRefused : Prop :=
  (∀ (s : State) (f : Frame) (rest : List Frame), s.link.buffer = f :: rest → s.mayTake = true →
    (parseRequest f = none → exec .malformed s = .next (s.answered rest (refuses f .malformed)))
    ∧ ∀ r, parseRequest f = some r → exec .malformed s = .next s)
  ∧ ∀ f : Frame, f.kind ∉ [0x01#8, 0x02#8, 0x03#8, 0x04#8, 0x05#8, 0x06#8, 0x07#8, 0x08#8, 0x10#8, 0x11#8, 0x12#8,
      0x13#8, 0x14#8, 0x15#8, 0x16#8, 0x18#8, 0x19#8, 0x1A#8, 0x1B#8, 0x1C#8, 0x1D#8, 0x1E#8, 0x20#8, 0x21#8, 0x28#8,
      0x29#8, 0x2A#8, 0x2B#8, 0x2C#8, 0x2D#8, 0x2E#8] → parseRequest f = none

/-- A request row that is due takes the oldest frame and places exactly one reply, which carries the frame's tag and
kind (R178, R179). That a row which is not due changes nothing is the model's choice (log entry 3). A refused request
changes no state: its frame is gone, its refusal is placed, and that is all (R179). -/
def Obligations.RequestsAreAnsweredOnce : Prop :=
  (∀ (c : Instr) (s t : State), isRequestRow c = true → exec c s = .next t →
    t = s ∨ ∃ f rest r, s.mayTake = true ∧ s.link.buffer = f :: rest ∧ t.link.buffer = rest
      ∧ t.link.replies = s.link.replies ++ [r] ∧ r.tag = f.tag ∧ r.request = f.kind ∧ t.link.rx = s.link.rx
      ∧ ∃ more, t.link.notices = s.link.notices ++ more)
  ∧ (∀ (c : Instr) (s t : State) (f : Frame) (rest : List Frame) (r : Reply), isRequestRow c = true →
    s.link.buffer = f :: rest → exec c s = .next t → t.link.replies = s.link.replies ++ [r] → r.refusal ≠ none →
    t = s.answered rest r ∧ ∃ code, r = refuses f code)

/-- The reactions at the end of an event leave alone the engine state, the prices, the transit list, the fault count,
the halt causes, and the tables and limits that requests write, but for the magazine records, which a changeover may
move. That the reactions are made there, in one sequence, is read from the spec (log entry 5). -/
def Obligations.ReactionsLeaveTablesAlone : Prop :=
  ∀ u : State, u.settle.SameTables u

/-! ## Orders -/

/-- ADMIT ORDER is refused by the first of its six checks that fails, in the sequence of R5. BIN_CAPACITY is above 0,
as its range has it. -/
def Obligations.AdmitOrderChecks : Prop :=
  ∀ (s : State) (f : Frame) (rest : List Frame) (b : AdmitBody), s.Offers f rest (.admitOrder b) →
    0 < s.sorter.binCapacity →
    let refused := fun code => exec .admitOrder s = .next (s.answered rest (refuses f code))
    (s.engine.state = .halted ∨ s.engine.state = .recovery → refused .mode)
    ∧ (s.engine.state.open_ →
      (b.BadValue → refused .badValue)
      ∧ (¬ b.BadValue →
        (s.NoPlace → refused .full)
        ∧ (¬ s.NoPlace →
          (s.Known b.number → refused .duplicate)
          ∧ (¬ s.Known b.number →
            (s.BadProducts b → refused .badProduct)
            ∧ (¬ s.BadProducts b → s.TooLarge b → refused .tooLarge)))))

/-- An ADMIT ORDER that passes every check creates the order in the lowest free slot: its record, its lines, the next
admit sequence number, its need record, the latch count of the selected bank, and its place at the end of its class
list; nothing else changes but for the paper check and the reactions of the event (R1, R2, R6, R8, R122, R147). In
SETUP there are none. The reply carries the slot, the admit sequence number, the need, the bulk flag and the clamp
indications, which the model lays out as a list with one flag for each line (log entry 12). -/
def Obligations.AdmitOrderCreatesTheOrder : Prop :=
  ∀ (s : State) (f : Frame) (rest : List Frame) (b : AdmitBody) (slot : Slot), s.Offers f rest (.admitOrder b) →
    0 < s.sorter.binCapacity → s.engine.state.open_ → ¬ b.BadValue → s.order slot = none →
    (∀ i < slot, s.order i ≠ none) → s.orders.seq < 4294967295 → ¬ s.Known b.number → ¬ s.BadProducts b →
    ¬ s.TooLarge b →
    b.LinesAdmitted b.orderLines ∧
    let units := s.orderUnits b.orderLines
    let need := (units + s.sorter.binCapacity - 1) / s.sorter.binCapacity
    let bulk := decide (4 < need)
    let bank := s.pricing.selected
    let o : Order := ⟨b.number, if b.cls = 0 then .express else .standard, b.customer, bank,
      if b.creditGiven = 1 then some b.credit else none, b.orderLines, .waiting, false, false, false, false, bulk, [],
      false, 0, none, s.orders.seq + 1⟩
    let u : State := { s.taken rest with
      orders := { s.orders with recs := s.orders.recs.set slot (some o), seq := s.orders.seq + 1 }
      sorter := { s.sorter with needs := s.sorter.needs.set slot (some ⟨need, bulk⟩) }
      pricing := { s.pricing with latch := s.pricing.latch.set bank (s.pricing.latch[bank] + 1) }
      sched := if b.cls = 0 then { s.sched with express := s.sched.express ++ [slot] }
        else { s.sched with standard := s.sched.standard ++ [slot] } }
    let r := accepts f (b1 slot.val ++ b4 (s.orders.seq + 1) ++ b2 need ++ bf bulk
      ++ bl (b.orderLines.map fun l => bf l.clamped))
    exec .admitOrder s = .next (u.paperCheck.prompt.repliesAfter r)
    ∧ (s.engine.state = .setup → exec .admitOrder s = .next (u.answered rest r))

/-- The seven requests that name an order are refused with UNKNOWN when no occupied record carries the number (R21). -/
def Obligations.UnknownOrderIsRefused : Prop :=
  ∀ (s : State) (f : Frame) (rest : List Frame) (n first : Nat), ¬ s.Known n →
    let t : Host.Outcome State Fault Refusal := .next (s.answered rest (refuses f .unknown))
    (s.Offers f rest (.cancelOrder n) → exec .cancelOrder s = t)
    ∧ (s.Offers f rest (.holdOrder n) → exec .holdOrder s = t)
    ∧ (s.Offers f rest (.releaseOrder n) → exec .releaseOrder s = t)
    ∧ (s.Offers f rest (.acceptOrder n) → exec .acceptOrder s = t)
    ∧ (s.Offers f rest (.queryOrder n first) → exec .queryOrder s = t)
    ∧ (s.Offers f rest (.quoteOrder n first) → exec .quoteOrder s = t)
    ∧ (s.Offers f rest (.repriceOrder n) → exec .repriceOrder s = t)

/-- HOLD ORDER sets the held flag of a WAITING or PRINTING order, which leaves the bin-wait set; RELEASE ORDER clears
it; in any other state both, and CANCEL ORDER, are refused with COMPLETE (R16, R20, R65). CANCEL ORDER of a WAITING
order frees the record at once and queues ORDER CANCELLED; nothing else is touched (R16). -/
def Obligations.HoldReleaseAndEarlyCancel : Prop :=
  (∀ (s : State) (f : Frame) (rest : List Frame) (n : Nat) (slot : Slot) (o : Order), s.Names n slot o →
    (o.state = .waiting ∨ o.state = .printing →
      (s.Offers f rest (.holdOrder n) → slot ∉ s.sched.binWait →
        exec .holdOrder s = .next (State.answered
          { s with orders := { s.orders with recs := s.orders.recs.set slot (some { o with held := true }) } } rest
          (accepts f [])))
      ∧ (s.Offers f rest (.holdOrder n) → slot ∈ s.sched.binWait →
        exec .holdOrder s = .next (State.answered (State.annunciate
          { s with
            orders := { s.orders with recs := s.orders.recs.set slot (some { o with held := true }) }
            sched := { s.sched with binWait := s.sched.binWait.filter (· != slot) } }) rest (accepts f [])))
      ∧ (s.Offers f rest (.releaseOrder n) → o.held = true →
        exec .releaseOrder s = .next (State.repliesAfter (State.prompt
          { s.taken rest with
            orders := { s.orders with recs := s.orders.recs.set slot (some { o with held := false }) } })
          (accepts f [])))
      ∧ (s.Offers f rest (.releaseOrder n) → o.held = false →
        exec .releaseOrder s = .next (s.answered rest (accepts f []))))
    ∧ (o.state ≠ .waiting → o.state ≠ .printing →
      (s.Offers f rest (.holdOrder n) → exec .holdOrder s = .next (s.answered rest (refuses f .complete)))
      ∧ (s.Offers f rest (.releaseOrder n) → exec .releaseOrder s = .next (s.answered rest (refuses f .complete)))
      ∧ (s.Offers f rest (.cancelOrder n) → exec .cancelOrder s = .next (s.answered rest (refuses f .complete)))))
  ∧ (∀ (s : State) (f : Frame) (rest : List Frame) (n : Nat) (slot : Slot) (o : Order), s.Names n slot o →
    s.Offers f rest (.cancelOrder n) → o.state = .waiting →
    let u := (s.taken rest).cancelWaiting slot o
    exec .cancelOrder s = .next (u.repliesAfter (accepts f []))
    ∧ u.order slot = none ∧ (∀ i, i ≠ slot → u.order i = s.order i)
    ∧ u.orders.seq = s.orders.seq ∧ u.orders.remakeLimit = s.orders.remakeLimit
    ∧ u.sched = { s.sched with
        express := s.sched.express.filter (· != slot), standard := s.sched.standard.filter (· != slot)
        binWait := s.sched.binWait.filter (· != slot) }
    ∧ u.sorter = { s.sorter with needs := s.sorter.needs.set slot none }
    ∧ u.pricing = { s.pricing with latch := s.pricing.latch.set o.bank (s.pricing.latch[o.bank] - 1) }
    ∧ u.Raised s (.orderCancelled n) ∧ u.engine = s.engine ∧ u.mags = s.mags ∧ u.expo = s.expo ∧ u.web = s.web
    ∧ u.cutter = s.cutter ∧ u.stop.causes = s.stop.causes)

/-- CANCEL ORDER of a PRINTING order counts every copy cancelled that is not delivered, takes the order off its lists,
withdraws or removes its calls and voids its segments and items as cancel voids; with segments or items left it goes
to CANCELLING and no notice is queued (R17). With none left it ends at once, and else with the last of them (R17, R15,
R27). The end of CANCELLING: with nothing delivered the bins and the tray are released, FREE where they read empty and
STALE where they read occupied, and the record is freed with ORDER CANCELLED; else the order is CANCELLED and keeps
what reads occupied, and is freed at once when that is nothing (R19, R139). -/
def Obligations.CancelOfAPrintingOrder : Prop :=
  (∀ (s : State) (f : Frame) (rest : List Frame) (n : Nat) (slot : Slot) (o : Order), s.Names n slot o →
    s.Offers f rest (.cancelOrder n) → o.state = .printing →
    let u := (s.taken rest).cancelPrinting slot o
    let o' : Order := { o with
        lines := o.lines.map fun l =>
          { l with queued := 0, owed := 0, onWeb := 0, cancelled := l.cancelled + l.queued + l.onWeb }
        held := false, state := .cancelling }
    exec .cancelOrder s = .next (u.repliesAfter (accepts f []))
    ∧ (∀ i, i ≠ slot → u.order i = s.order i)
    ∧ u.sched = { s.sched with
        remake := s.sched.remake.filter (· != slot), express := s.sched.express.filter (· != slot)
        standard := s.sched.standard.filter (· != slot) }
    ∧ (∀ c ∈ u.expo.calls, c.slot ≠ slot) ∧ (∀ c ∈ s.expo.calls, c.slot ≠ slot → (∀ d ∈ s.expo.calls,
        d.slot = slot → d.tag ≠ c.tag) → c ∈ u.expo.calls)
    ∧ u.web.queue = s.web.queue.map (fun g =>
        if g.void = none ∧ (g.kind = .print ∨ g.kind = .index) ∧ g.copy.map Copy.slot = some slot
        then { g with void := some .cancelVoid } else g)
    ∧ u.sorter.transit = s.sorter.transit.map (fun it =>
        if it.copy.slot = slot ∧ it.void.isNone = true then { it with void := some .cancelVoid } else it)
    ∧ u.engine = s.engine ∧ u.mags = s.mags ∧ u.cutter = s.cutter ∧ u.stop.causes = s.stop.causes
    ∧ (0 < o.inFlight → u.order slot = some o' ∧ u.link.notices = s.link.notices ∧ u.pricing = s.pricing
        ∧ u.stop = s.stop ∧ { u.sorter with transit := s.sorter.transit } = s.sorter)
    ∧ (o.inFlight = 0 → ∃ v : State, v.order slot = some o' ∧ (∀ p, v.place p = s.place p)
        ∧ v.sorter.needs = s.sorter.needs ∧ v.link.notices = s.link.notices ∧ u = v.endCancelling slot))
  ∧ (∀ (s : State) (slot : Slot) (o : Order), s.order slot = some o → o.state = .cancelling →
      (1 < o.inFlight → (s.leftFlight slot).order slot = some { o with inFlight := o.inFlight - 1 }
        ∧ (s.leftFlight slot).link = s.link)
      ∧ (o.inFlight ≤ 1 → s.leftFlight slot = State.endCancelling
          { s with orders := { s.orders with recs := s.orders.recs.set slot (some { o with inFlight := 0 }) } } slot))
  ∧ (∀ (s : State) (slot : Slot) (o : Order), s.order slot = some o →
      let u := s.endCancelling slot
      let emptied := fun p => (s.place p).ownedBy slot = true ∧ (s.place p).occupied = false
      let cleared := fun (p : Container) (b : BinState) =>
        { s.place p with state := b, owner := none, pos := none, used := 0 }
      (∀ i, i ≠ slot → u.order i = s.order i)
      ∧ (∀ p, (s.place p).ownedBy slot = false → u.place p = s.place p)
      ∧ (∀ p, emptied p → u.place p = cleared p .free)
      ∧ u.sorter.transit = s.sorter.transit ∧ u.web = s.web ∧ u.expo = s.expo ∧ u.mags = s.mags ∧ u.cutter = s.cutter
      ∧ u.engine = s.engine ∧ u.sched = s.sched
      ∧ ((∀ l ∈ o.lines, l.delivered = 0) →
          u.order slot = none ∧ u.sorter.needs = s.sorter.needs.set slot none ∧ u.Raised s (.orderCancelled o.number)
          ∧ ∀ p, (s.place p).ownedBy slot = true → (s.place p).occupied = true → u.place p = cleared p .stale)
      ∧ ((∃ l ∈ o.lines, l.delivered ≠ 0) →
          let kept := o.bins.filter fun e =>
            !(s.sorter.bins[e.bin].ownedBy slot && !s.sorter.bins[e.bin].occupied)
          let tray := o.trayHeld && !(s.sorter.tray.ownedBy slot && !s.sorter.tray.occupied)
          (∀ p, (s.place p).ownedBy slot = true → (s.place p).occupied = true →
            u.place p = { s.place p with state := .ready })
          ∧ (kept = [] ∧ tray = false ∧ o.inFlight = 0 →
              u.order slot = none ∧ u.Raised s (.orderCancelled o.number))
          ∧ (¬ (kept = [] ∧ tray = false ∧ o.inFlight = 0) →
              u.order slot = some { o with state := .cancelled, bins := kept, trayHeld := tray })))

/-- ACCEPT ORDER takes an order in ATTENTION without PRICE FAULT to READY, and frees it at once when nothing of it is
left; it is refused with CONDITION for an order with PRICE FAULT or in any other state (R13, R11). REPRICE ORDER of an
order in ATTENTION writes the tally of the delivered counts, forms PRICE FAULT anew, and takes the order to READY when
no reason is left; in any other state it is refused with CONDITION (R160, R12). The layout of its reply, with a
presence byte before the attention reasons and a line list that has no full-length byte, is read from R190 and R191
(log entry 12), with the model's choices for the figures (log entries 44, 45, 47 and 53). -/
def Obligations.AcceptAndReprice : Prop :=
  (∀ (s : State) (f : Frame) (rest : List Frame) (n : Nat) (slot : Slot) (o : Order), s.Names n slot o →
    s.Offers f rest (.acceptOrder n) →
    (o.state = .attention ∧ o.priceFault = false →
      let v := State.annunciate { s with orders := { s.orders with
        recs := s.orders.recs.set slot (some { o with state := .ready, shortReason := false }) } }
      (¬ (o.bins = [] ∧ o.trayHeld = false ∧ o.inFlight = 0) →
        exec .acceptOrder s = .next (v.answered rest (accepts f [2#8])))
      ∧ (o.bins = [] ∧ o.trayHeld = false ∧ o.inFlight = 0 →
        ∃ t, exec .acceptOrder s = .next t ∧ t.order slot = none ∧ (∀ i, i ≠ slot → t.order i = s.order i)
          ∧ t.link.replies = s.link.replies ++ [accepts f [2#8]] ∧ t.Raised s (.orderCollected n)
          ∧ t.sorter = { s.sorter with needs := s.sorter.needs.set slot none }
          ∧ t.web = s.web ∧ t.expo = s.expo ∧ t.mags = s.mags ∧ t.cutter = s.cutter ∧ t.engine = s.engine
          ∧ t.sched = s.sched))
    ∧ (¬ (o.state = .attention ∧ o.priceFault = false) →
      exec .acceptOrder s = .next (s.answered rest (refuses f .condition))))
  ∧ (∀ (s : State) (f : Frame) (rest : List Frame) (n : Nat) (slot : Slot) (o : Order), s.Names n slot o →
    s.Offers f rest (.repriceOrder n) →
    let figures := s.pricing.compute o Line.delivered
    let fault := figures.ov || figures.unpriced
    let tally : Tally := ⟨figures.gross, figures.discount, figures.net, figures.tax, figures.creditApplied,
      figures.total, figures.ov, figures.floored, figures.unpriced⟩
    let o' : Order := { o with
      tally := some tally, priceFault := fault
      state := if fault = true ∨ o.shortReason = true then .attention else .ready }
    let reasons := if fault = true ∨ o.shortReason = true then some (reasonsCode fault o.shortReason) else none
    let data := page 0 allEntries [.counted (figures.lines.map LineFigures.bytes),
      .full (figures.bytes ++ tally.bytes ++ bo 1 b1 reasons)]
    (o.state = .attention → (fault = true ∨ o.shortReason = true) →
      exec .repriceOrder s = .next (State.answered (State.annunciate
        { s with orders := { s.orders with recs := s.orders.recs.set slot (some o') } }) rest (accepts f data)))
    ∧ (o.state = .attention → fault = false → o.shortReason = false →
      ∃ t, exec .repriceOrder s = .next t ∧ t.link.replies = s.link.replies ++ [accepts f data]
        ∧ t.Raised s (.orderReady n slot figures.total o.disturbed)
        ∧ t.order slot = (if o.bins = [] ∧ o.trayHeld = false ∧ o.inFlight = 0 then none else some o')
        ∧ (∀ i, i ≠ slot → t.order i = s.order i) ∧ t.web = s.web ∧ t.expo = s.expo ∧ t.mags = s.mags
        ∧ t.cutter = s.cutter ∧ t.engine = s.engine ∧ t.sched = s.sched)
    ∧ (o.state ≠ .attention → exec .repriceOrder s = .next (s.answered rest (refuses f .condition))))

/-- QUERY ORDER, QUOTE ORDER, QUERY BINS and QUERY STATUS report and change nothing (R21, R159, R142, R189), but for
the counter of free values that a report of the seconds left to the soak timer uses up, which is the model's own (log
entry 4). That a parameter other than 0 is refused where a part has none is read from R189 (log entry 32). The layouts
of the replies are read from R190 and R191 (log entry 12), with the model's choices where those leave one open (log
entries 13, 22, 37, 38, 39, 41, 44, 45, 46, 47, 49 and 52). -/
def Obligations.QueriesChangeNothing : Prop :=
  ∀ (s : State) (f : Frame) (rest : List Frame),
    (∀ (n first : Nat) (slot : Slot) (o : Order), s.Names n slot o →
      (s.Offers f rest (.queryOrder n first) →
        exec .queryOrder s = .next (s.answered rest (accepts f (page first 256 (orderParts slot o)))))
      ∧ (s.Offers f rest (.quoteOrder n first) → o.state ≠ .cancelling → o.state ≠ .cancelled →
        exec .quoteOrder s = .next (s.answered rest (accepts f
          (page first 256 (s.pricing.compute o fun l => l.qty - l.cancelled).parts))))
      ∧ (s.Offers f rest (.quoteOrder n first) → o.state = .cancelling ∨ o.state = .cancelled →
        exec .quoteOrder s = .next (s.answered rest (refuses f .complete))))
    ∧ (∀ first, s.Offers f rest (.queryBins first) →
      exec .queryBins s = .next (s.answered rest (accepts f (page first 256 s.binsParts))))
    ∧ ∀ part param first, s.Offers f rest (.queryStatus part param first) →
      let reports := fun parts => exec .queryStatus s = .next ((s.answered rest (accepts f (page first 256 parts))))
      (part = 0 → param = 0 → reports (s.taken rest).engineParts)
      ∧ (part = 1 → param = 0 → reports s.magazineParts)
      ∧ (part = 2 → param = 0 → reports s.schedulerParts)
      ∧ (part = 3 → param = 0 → reports s.exposureParts)
      ∧ (part = 4 → param < 192 →
          exec .queryStatus s = .next (s.answered rest (accepts f (page param 16 s.webParts))))
      ∧ (part = 5 → param = 0 → reports s.cutterParts)
      ∧ (∀ bank : BankIx, part = 6 → param = bank.val → reports (s.pricingParts bank))
      ∧ (part = 7 → param = 0 → s.stop.soak = none → reports s.stopParts)
      ∧ (part = 7 → param = 0 → s.stop.soak ≠ none →
          exec .queryStatus s = .next (State.answered { s with free := s.free + 1 } rest
            (accepts f (page first 256 s.stopParts))))
      ∧ (7 < part ∨ (part = 4 ∧ 191 < param) ∨ (part = 6 ∧ 3 < param)
          ∨ (part ≠ 4 ∧ part ≠ 6 ∧ param ≠ 0) →
          exec .queryStatus s = .next (s.answered rest (refuses f .badValue)))

/-- The completion of a PRINTING order (R10): off its class list, hold cleared, priced from the delivered counts,
READY or ATTENTION by its reasons, its bins READY, the notice queued; with a segment or item in flight the record
stays. -/
def Obligations.CompletionOfAnOrder : Prop :=
  ∀ (s : State) (slot : Slot) (o : Order), s.order slot = some o → o.state = .printing → 0 < o.inFlight →
    (¬ (∀ l ∈ o.lines, l.delivered + l.cancelled = l.qty) → s.completionTest slot = s)
    ∧ ((∀ l ∈ o.lines, l.delivered + l.cancelled = l.qty) →
      let u := s.completionTest slot
      let figures := s.pricing.compute o Line.delivered
      let fault := figures.ov || figures.unpriced
      let short := o.lines.any Line.short
      ∃ o', u.order slot = some o' ∧ o'.SameIdentity o ∧ o'.lines = o.lines ∧ o'.held = false
        ∧ o'.tally = some ⟨figures.gross, figures.discount, figures.net, figures.tax, figures.creditApplied,
            figures.total, figures.ov, figures.floored, figures.unpriced⟩
        ∧ o'.priceFault = fault ∧ o'.shortReason = short ∧ o'.inFlight = o.inFlight ∧ o'.disturbed = o.disturbed
        ∧ o'.state = (if fault = true ∨ short = true then .attention else .ready)
        ∧ u.Raised s (if fault = true ∨ short = true
            then .orderAttention o.number slot figures.total o.disturbed fault short
            else .orderReady o.number slot figures.total o.disturbed)
        ∧ slot ∉ u.sched.express ∧ slot ∉ u.sched.standard ∧ u.sched.remake = s.sched.remake
        ∧ (∀ i, i ≠ slot → u.order i = s.order i)
        ∧ (∀ p, (s.place p).ownedBy slot = true → u.place p =
            if (s.place p).occupied then { s.place p with state := .ready }
            else { s.place p with state := .free, owner := none, pos := none, used := 0 })
        ∧ (∀ p, (s.place p).ownedBy slot = false → u.place p = s.place p)
        ∧ u.web = s.web ∧ u.expo = s.expo ∧ u.mags = s.mags ∧ u.cutter = s.cutter ∧ u.engine = s.engine
        ∧ u.pricing = s.pricing ∧ u.stop.causes = s.stop.causes)

/-- A void of a copy on the web moves it by its cause: owed again with a remake used, or cancelled with SHORT once the
remakes are used up, for a cutter miss, a raster fault and a misroute; owed again for a jam, soak and halt void; the
completion test follows (R24). A cancel void makes no report, since R17 has counted the copy. -/
def Obligations.VoidMovesTheCopy : Prop :=
  (∀ (s : State) (slot : Slot) (o : Order) (n : Nat) (l : Line) (cause : VoidCause), s.order slot = some o →
    o.state = .printing → 0 < o.inFlight → o.line n = some l → 0 < l.onWeb → cause ≠ .cancelVoid →
    let spoils : Bool := cause = .cutterMiss ∨ cause = .rasterFault ∨ cause = .misroute
    let l' : Line :=
      if spoils ∧ l.remakesUsed < s.orders.remakeLimit then
        { l with queued := l.queued + 1, owed := l.owed + 1, onWeb := l.onWeb - 1, remakesUsed := l.remakesUsed + 1 }
      else if spoils then { l with onWeb := l.onWeb - 1, cancelled := l.cancelled + 1, short := true }
      else { l with queued := l.queued + 1, owed := l.owed + 1, onWeb := l.onWeb - 1 }
    let u := s.voidReport ⟨slot, n⟩ cause
    ∃ o', u.order slot = some o' ∧ o'.SameIdentity o ∧ o'.lines = o.lines.set (n - 1) l' ∧ o'.inFlight = o.inFlight
      ∧ (o'.state = .printing ↔ ∃ m ∈ o'.lines, m.delivered + m.cancelled ≠ m.qty)
      ∧ (∀ i, i ≠ slot → u.order i = s.order i)
      ∧ ((slot ∈ s.sched.remake ↔ 0 < o.owedTotal) → (slot ∈ u.sched.remake ↔ 0 < o'.owedTotal))
      ∧ u.web = s.web ∧ u.expo = s.expo ∧ u.mags = s.mags ∧ u.cutter = s.cutter ∧ u.engine = s.engine
      ∧ u.sorter.transit = s.sorter.transit)
  ∧ ∀ (s : State) (p : Segment → Bool), (s.voidSegments .cancelVoid p).orders = s.orders

/-! ## Tables and limits -/

/-- SET SIZE is refused by its first failing check, or writes the index whole or empties it, and nothing else (R29). -/
def Obligations.SetSizeWritesTheIndex : Prop :=
  ∀ (s : State) (f : Frame) (rest : List Frame),
    let refused := fun code => exec .setSize s = .next (s.answered rest (refuses f code))
    (∀ index entry, s.Offers f rest (.setSize index entry) →
      (s.engine.state ≠ .setup → refused .mode)
      ∧ (s.engine.state = .setup → 31 < index → refused .badValue))
    ∧ (∀ (i : Fin 32), s.Offers f rest (.setSize i.val none) → s.engine.state = .setup →
      ((∃ z, s.mags.sizes[i] = some z ∧ s.InUse z.product) → refused .inUse)
      ∧ ((∀ z, s.mags.sizes[i] = some z → ¬ s.InUse z.product) →
        exec .setSize s = .next (State.answered { s with mags := { s.mags with sizes := s.mags.sizes.set i none } } rest
          (accepts f (b1 i.val ++ List.replicate 10 0)))))
    ∧ ∀ (i : Fin 32) (b : SizeBody), s.Offers f rest (.setSize i.val (some b)) → s.engine.state = .setup →
      ((∀ w, ¬ b.InRange w) → refused .badValue)
      ∧ ∀ w, b.InRange w →
        ((∃ z, s.mags.sizes[i] = some z ∧ s.InUse z.product) → refused .inUse)
        ∧ ((∀ z, s.mags.sizes[i] = some z → ¬ s.InUse z.product) →
          ((∃ (j : Fin 32) (z : SizeEntry), j ≠ i ∧ s.mags.sizes[j] = some z ∧ z.product = b.product) →
            refused .duplicate)
          ∧ ((∀ (j : Fin 32) (z : SizeEntry), s.mags.sizes[j] = some z → z.product = b.product → j = i) →
            let z : SizeEntry := ⟨b.product, if b.kind = 0 then .print else .index, w, b.length, b.units⟩
            exec .setSize s = .next (State.answered
              { s with mags := { s.mags with sizes := s.mags.sizes.set i (some z) } } rest
              (accepts f (b1 i.val ++ [1] ++ z.bytes)))))

/-- LOAD MAGAZINE and UNLOAD MAGAZINE are refused by their first failing check, or write the magazine's record whole
and take the selector off it; nothing else changes but for the news that the paper has changed (R31, R32, R30). The
layout of the reply of LOAD MAGAZINE, the clamped flag and then the record, is read from R190 (log entry 12). That a
LOADED magazine loaded again with the same width is such news is the model's choice (log entry 51). -/
def Obligations.MagazinesAreLoadedAndUnloaded : Prop :=
  ∀ (s : State) (f : Frame) (rest : List Frame),
    let closed := s.engine.state = .halted ∧ HaltCause.magazine ∉ s.stop.causes
    let busy := fun m : MagId => (∃ r, s.mags.get m = some r ∧ r.state = .active) ∨ s.mags.change.targets m = true
    let stored := fun (m : MagId) (r : Option MagRec) =>
      { s.mags.put m r with selector := if s.mags.selector = some m then none else s.mags.selector }
    (∀ b : LoadBody, s.Offers f rest (.loadMagazine b) →
      let refused := fun code => exec .loadMagazine s = .next (s.answered rest (refuses f code))
      (closed → refused .mode)
      ∧ (¬ closed →
        ((1 < b.mag ∨ (∀ w : Width, b.width ≠ w.mm) ∨ ¬ b.Right) → refused .badValue)
        ∧ ∀ (m : MagId) (w : Width), b.mag = m.code → b.width = w.mm → b.Right →
          (busy m → refused .inUse)
          ∧ (¬ busy m →
            let r : MagRec := ⟨.loaded, w, min b.remaining 1800000, b.low.getD 50000, false, b.base, b.offset⟩
            let reply := accepts f (bf (decide (1800000 < b.remaining)) ++ magBytes (some r))
            exec .loadMagazine s = .next (State.repliesAfter
              (State.annunciate (State.paperChanged { s.taken rest with mags := stored m (some r) })) reply)
            ∧ (s.engine.state = .setup → exec .loadMagazine s = .next
                (State.answered (State.annunciate { s with mags := stored m (some r) }) rest reply)))))
    ∧ ∀ mag : Nat, s.Offers f rest (.unloadMagazine mag) →
      let refused := fun code => exec .unloadMagazine s = .next (s.answered rest (refuses f code))
      (closed → refused .mode)
      ∧ (¬ closed →
        (1 < mag → refused .badValue)
        ∧ ∀ m : MagId, mag = m.code →
          (busy m → refused .inUse)
          ∧ (¬ busy m → s.mags.get m = none → exec .unloadMagazine s = .next (s.answered rest (accepts f [])))
          ∧ (¬ busy m → s.mags.get m ≠ none →
            exec .unloadMagazine s = .next (State.repliesAfter
              (State.annunciate (State.paperChanged { s.taken rest with mags := stored m none })) (accepts f []))
            ∧ (s.engine.state = .setup → exec .unloadMagazine s = .next
                (State.answered (State.annunciate { s with mags := stored m none }) rest (accepts f [])))))

/-- SET DRIFT writes the three values in every engine state, or is refused with BAD VALUE when one of them is out of
range, and changes nothing else (R34). SET TAX, SELECT BANK and SET FAULT COUNT are refused by their first failing
check, or write the one value they name; SET FAULT COUNT keeps the short-recovery mark as R119 has it (R151, R148,
R119). That SET TAX tests MODE before BAD VALUE is the model's choice (log entry 48). -/
def Obligations.DriftTaxBankAndCount : Prop :=
  (∀ (s : State) (f : Frame) (rest : List Frame) (d : Rgb Int), s.Offers f rest (.setDrift d) →
    ((∀ z ∈ d.toList, (-50 : Int) ≤ z ∧ z ≤ 50) →
      exec .setDrift s = .next (State.answered { s with mags := { s.mags with drift := d } } rest (accepts f [])))
    ∧ ((∃ z ∈ d.toList, z < -50 ∨ 50 < z) → exec .setDrift s = .next (s.answered rest (refuses f .badValue))))
  ∧ (∀ (s : State) (f : Frame) (rest : List Frame),
    (∀ category rate, s.Offers f rest (.setTax category rate) →
      (s.engine.state ≠ .setup → exec .setTax s = .next (s.answered rest (refuses f .mode)))
      ∧ (s.engine.state = .setup → (3 < category ∨ 10000 < rate) →
        exec .setTax s = .next (s.answered rest (refuses f .badValue)))
      ∧ ∀ c : Fin 4, category = c.val → s.engine.state = .setup → rate ≤ 10000 →
        exec .setTax s = .next (State.answered
          { s with pricing := { s.pricing with tax := s.pricing.tax.set c rate } } rest (accepts f (b2 rate))))
    ∧ (∀ bank, s.Offers f rest (.selectBank bank) →
      (bank = 0 ∨ 3 < bank → exec .selectBank s = .next (s.answered rest (refuses f .badValue)))
      ∧ ∀ k : SwBank, bank = k.val + 1 →
        exec .selectBank s = .next (State.answered { s with pricing := { s.pricing with selected := k } } rest
          (accepts f (b1 bank))))
    ∧ ∀ value, s.Offers f rest (.setFaultCount value) →
      (s.engine.state ≠ .setup → exec .setFaultCount s = .next (s.answered rest (refuses f .mode)))
      ∧ (s.engine.state = .setup → 255 < value →
        exec .setFaultCount s = .next (s.answered rest (refuses f .badValue)))
      ∧ (s.engine.state = .setup → value ≤ 255 →
        let due := if value = 255 then false else if s.cutter.count = 255 then true else s.cutter.recovery.shortDue
        exec .setFaultCount s = .next (State.answered
          { s with cutter := { s.cutter with
              count := value, recovery := { s.cutter.recovery with shortDue := due } } } rest
          (accepts f (b1 value ++ bf (decide (127 < value)) ++ bf due)))))

/-- SET STATIONS is refused by its first failing check, or moves the stations it names and no other (R92). An empty
list is accepted with no change, which is read from R92 (log entry 14); that MODE is tested before BAD VALUE is the
model's choice (log entry 48), and so are the replies, of four stations and of ten limits as plain fields with no count
(log entry 45). SET LIMITS is refused by its first failing
check, or writes every limit it names and no other, reloading S with STANDARD_SLICE; in RUN and PAUSED it may name
STANDARD_SLICE and EXPRESS_RESERVE alone, and prompts a pass (R182). -/
def Obligations.StationsAndLimitsAreWritten : Prop :=
  (∀ (s : State) (f : Frame) (rest : List Frame) (es : List (Nat × Nat)), s.Offers f rest (.setStations es) →
    let right := (∀ e ∈ es, e.1 ≤ 3 ∧ 1 ≤ e.2 ∧ e.2 ≤ 150000) ∧ (es.map Prod.fst).Nodup
    (s.engine.state ≠ .setup → exec .setStations s = .next (s.answered rest (refuses f .mode)))
    ∧ (s.engine.state = .setup → ¬ right → exec .setStations s = .next (s.answered rest (refuses f .badValue)))
    ∧ (s.engine.state = .setup → right →
      let g : Stations := ⟨named es 0 s.web.stations.pIn, named es 1 s.web.stations.pOut,
        named es 2 s.web.stations.dry, named es 3 s.web.stations.cut⟩
      exec .setStations s = .next (State.answered { s with web := { s.web with stations := g } } rest
        (accepts f (b4 g.pIn ++ b4 g.pOut ++ b4 g.dry ++ b4 g.cut
          ++ bf (decide (g.pIn < g.pOut ∧ g.pOut < g.dry ∧ g.dry < g.cut ∧ g.cut ≤ 150000)))))))
  ∧ (∀ (s : State) (f : Frame) (rest : List Frame) (es : List (Nat × Nat)), s.Offers f rest (.setLimits es) →
    let refused := fun code => exec .setLimits s = .next (s.answered rest (refuses f code))
    let right := es ≠ [] ∧ es.length ≤ 10 ∧ (es.map Prod.fst).Nodup ∧ LimitsInRange es
    let early := s.engine.state ≠ .setup ∧ ∃ e ∈ es, e.1 ≠ 1 ∧ e.1 ≠ 2
    let crowded := ∃ e ∈ es, e.1 = 2 ∧ 24 < s.standardOwned + e.2
    let written : State := { s with
      sched := { s.sched with
        standardSlice := named es 1 s.sched.standardSlice, slice := named es 1 s.sched.slice }
      sorter := { s.sorter with
        expressReserve := named es 2 s.sorter.expressReserve, binCapacity := named es 3 s.sorter.binCapacity
        bulkCapacity := named es 4 s.sorter.bulkCapacity }
      orders := { s.orders with remakeLimit := named es 5 s.orders.remakeLimit }
      stop := { s.stop with soakLimit := named es 6 s.stop.soakLimit }
      cutter := { s.cutter with
        warningLimit := named es 7 s.cutter.warningLimit, markWindow := named es 10 s.cutter.markWindow }
      expo := { s.expo with readyTimeout := named es 8 s.expo.readyTimeout, gap := named es 9 s.expo.gap } }
    let reply := accepts f (written.limits.map b4).flatten
    (s.engine.state = .halted ∨ s.engine.state = .recovery → refused .mode)
    ∧ (s.engine.state.open_ →
      (¬ right → refused .badValue)
      ∧ (right → early → refused .mode)
      ∧ (right → ¬ early → crowded → refused .condition)
      ∧ (right → ¬ early → ¬ crowded →
        (s.engine.state = .setup → exec .setLimits s = .next (written.answered rest reply))
        ∧ (s.engine.state ≠ .setup →
          exec .setLimits s = .next ((written.taken rest).prompt.repliesAfter reply)))))

/-- SET PRICE and CLEAR PRICE are refused by their first failing check, or write the one index of the one bank (R144
to R147). The place of BAD VALUE among the checks of CLEAR PRICE is the model's choice (log entry 43). -/
def Obligations.PricesAreWrittenAndCleared : Prop :=
  ∀ (s : State) (f : Frame) (rest : List Frame),
    let closed := s.engine.state = .halted ∨ s.engine.state = .recovery
    let guarded := fun bank => (s.engine.state = .run ∨ s.engine.state = .paused) ∧ s.pricing.BankUsed bank
    let book := fun (bank : BankIx) (i : Fin 32) (e : Option PriceEntry) =>
      { s with pricing := { s.pricing with book := s.pricing.book.set bank (s.pricing.book[bank].set i e) } }
    (∀ bank index b, s.Offers f rest (.setPrice bank index b) →
      let refused := fun code => exec .setPrice s = .next (s.answered rest (refuses f code))
      (closed → refused .mode)
      ∧ (s.engine.state.open_ →
        ((3 < bank ∨ 31 < index ∨ ¬ b.Right) → refused .badValue)
        ∧ ∀ (k : BankIx) (i : Fin 32) (c : Fin 4), bank = k.val → index = i.val → b.tax = c.val → b.Right →
          let e : PriceEntry := ⟨b.product, if b.mode = 0 then .graduated else .block, b.tiers, c⟩
          (guarded k → refused .bankInUse)
          ∧ (¬ guarded k → s.pricing.Twice k i b.product → refused .duplicate)
          ∧ (¬ guarded k → ¬ s.pricing.Twice k i b.product →
            exec .setPrice s = .next ((book k i (some e)).answered rest
              (accepts f (b1 bank ++ b1 index ++ e.bytes))))))
    ∧ ∀ bank index, s.Offers f rest (.clearPrice bank index) →
      let refused := fun code => exec .clearPrice s = .next (s.answered rest (refuses f code))
      (closed → refused .mode)
      ∧ (s.engine.state.open_ →
        ((3 < bank ∨ 31 < index) → refused .badValue)
        ∧ ∀ (k : BankIx) (i : Fin 32), bank = k.val → index = i.val →
          (guarded k → refused .bankInUse)
          ∧ (¬ guarded k → exec .clearPrice s = .next ((book k i none).answered rest
              (accepts f (b1 bank ++ b1 index)))))

/-- SET PROMOTION writes an index with the entry that its body spells, or empties it, in every engine state, and is
refused with BAD VALUE where a field that counts is out of range (R149). A presence byte each for the second code, the
second mask, n and m, in the body as in the reply, which of these fields count, and the zeros of an empty entry are the
model's choices (log entries 15, 44 and 13). -/
def Obligations.PromotionsAreWritten : Prop :=
  ∀ (s : State) (f : Frame) (rest : List Frame),
    let refused := exec .setPromotion s = .next (s.answered rest (refuses f .badValue))
    let written := fun (i : Fin 16) (p : Option Promotion) => exec .setPromotion s = .next (State.answered
      { s with pricing := { s.pricing with promotions := s.pricing.promotions.set i p } } rest
      (accepts f (promotionBytes p)))
    (∀ index entry, s.Offers f rest (.setPromotion index entry) → 15 < index → refused)
    ∧ (∀ i : Fin 16, s.Offers f rest (.setPromotion i.val none) → written i none)
    ∧ ∀ (i : Fin 16) (b : PromoBody), s.Offers f rest (.setPromotion i.val (some b)) →
      ((∀ p, ¬ b.Spells p) → refused) ∧ ∀ p, b.Spells p → written i (some p)

/-! ## The annunciator -/

/-- SET PATTERN writes the pattern of one condition, and restarts the envelopes where that condition drives; SILENCE
sets the mute flag and leaves the lamp to the waves; the next edge moves the envelopes on (R173, R174, R175). That an
edge with no driving condition, or with an empty set of rates, is not due and changes nothing is the model's choice
(log entry 3). A report of the conditions: each is active as the table of R172 has it, the highest drives, one that has
become active clears the mute flag, a change of the driving one restarts the envelopes, and lamp and buzzer follow
(R172, R173, R175). That SET PATTERN tests MODE before BAD VALUE is the model's choice (log entry 48). -/
def Obligations.PatternsSilenceAndEnvelopes : Prop :=
  (∀ (s : State) (f : Frame) (rest : List Frame) (c rates : Nat) (bz : Bool), s.Offers f rest (.setPattern c rates bz) →
    (s.engine.state ≠ .setup → exec .setPattern s = .next (s.answered rest (refuses f .mode)))
    ∧ (s.engine.state = .setup → (5 < c ∨ 15 < rates) →
      exec .setPattern s = .next (s.answered rest (refuses f .badValue)))
    ∧ ∀ d : Condition, c = d.code → s.engine.state = .setup → rates ≤ 15 →
      let p : Pattern := ⟨rates.testBit 0, rates.testBit 1, rates.testBit 2, rates.testBit 3, bz⟩
      let w : State := { s with stop := { s.stop with patterns := s.stop.patterns.set d.ix p } }
      (s.stop.active.head? ≠ some d →
        exec .setPattern s = .next (w.answered rest (accepts f (b1 rates ++ bf bz))))
      ∧ (s.stop.active.head? = some d →
        exec .setPattern s = .next (State.answered
          { w with
            stop := { w.stop with phase := 0 }
            lines := { s.lines with lamp := true, buzzer := bz && !s.stop.mute } } rest
          (accepts f (b1 rates ++ bf bz)))))
  ∧ (∀ (s : State) (f : Frame) (rest : List Frame), s.Offers f rest .silence →
    exec .silence s = .next (State.answered
      { s with stop := { s.stop with mute := true }, lines := { s.lines with lamp := s.stop.lampOn, buzzer := false } }
      rest (accepts f (bo 1 (fun d => b1 d.code) s.stop.active.head?))))
  ∧ (∀ s : State, s.engine.resetAsserted = false →
    (∀ d, s.stop.active.head? = some d →
      let p := s.stop.patterns[d.ix]
      (∀ k, (if p.hz8 then some 1 else if p.hz4 then some 2 else if p.hz2 then some 4 else if p.hz1 then some 8
          else none) = some k →
        let c := { s.stop with phase := (s.stop.phase + k) % 16 }
        exec .annunciatorEnvelopeEdge s = .next { s with
          stop := c, lines := { s.lines with lamp := c.lampOn, buzzer := c.buzzerOn }, due := Due.none })
      ∧ (p.hz1 = false → p.hz2 = false → p.hz4 = false → p.hz8 = false →
        exec .annunciatorEnvelopeEdge s = .next { s with due := Due.none }))
    ∧ (s.stop.active = [] → exec .annunciatorEnvelopeEdge s = .next { s with due := Due.none }))
  ∧ ∀ s : State,
    let t := s.annunciate
    (HaltCause.jam ∈ s.stop.causes ↔ Condition.jam ∈ t.stop.active)
    ∧ (HaltCause.cutter ∈ s.stop.causes ↔ Condition.cutterHalt ∈ t.stop.active)
    ∧ (HaltCause.raster ∈ s.stop.causes ∨ HaltCause.magazine ∈ s.stop.causes ↔
        Condition.rasterMagazineHalt ∈ t.stop.active)
    ∧ (s.sched.binWait ≠ [] ↔ Condition.binWait ∈ t.stop.active)
    ∧ ((∃ i o, s.order i = some o ∧ o.cls = .express ∧ o.state = .ready) ↔ Condition.expressReady ∈ t.stop.active)
    ∧ ((∃ m r, s.mags.get m = some r ∧ r.state ≠ .empty ∧ r.lowReported = true) ↔ Condition.paperLow ∈ t.stop.active)
    ∧ t.stop.active.Pairwise (fun x y => x.code < y.code)
    ∧ ((∃ c ∈ t.stop.active, c ∉ s.stop.active) → t.stop.mute = false)
    ∧ ((∀ c ∈ t.stop.active, c ∈ s.stop.active) → t.stop.mute = s.stop.mute)
    ∧ t.stop.phase = (if t.stop.active.head? = s.stop.active.head? then s.stop.phase else 0)
    ∧ (t.lines.lamp = true ↔ ∃ d, t.stop.active.head? = some d ∧
        let p := t.stop.patterns[d.ix]
        (p.hz1 = true → t.stop.phase / 8 % 2 = 0) ∧ (p.hz2 = true → t.stop.phase / 4 % 2 = 0)
          ∧ (p.hz4 = true → t.stop.phase / 2 % 2 = 0) ∧ (p.hz8 = true → t.stop.phase % 2 = 0))
    ∧ (t.lines.buzzer = true ↔ t.lines.lamp = true ∧ t.stop.mute = false
        ∧ ∃ d, t.stop.active.head? = some d ∧ t.stop.patterns[d.ix].buzzer = true)
    ∧ t = { s with
        stop := { s.stop with active := t.stop.active, mute := t.stop.mute, phase := t.stop.phase }
        lines := { s.lines with lamp := t.lines.lamp, buzzer := t.lines.buzzer } }

/-! ## The engine -/

/-- ENTER SETUP changes nothing in SETUP, is refused in RECOVERY and, with prints on the web, in RUN and PAUSED;
otherwise the calls not exposing are removed, the changeover and the purge end, the miss count is 0, and the engine is
in SETUP with its orders, lists, bins and web queue kept (R186, R103). That the changeover ends before the engine
leaves its state is the model's choice (log entry 35), and so is the byte 0 in the reply of a request not taken from
HALTED (log entry 16). ENTER SETUP from HALTED ends the halt without resuming: the causes and the return state are
cleared, the soak timer is cancelled, every live print and index segment is voided as a halt void, the web becomes
unknown (R186, R171). -/
def Obligations.EnterSetup : Prop :=
  (∀ (s : State) (f : Frame) (rest : List Frame), s.Offers f rest .enterSetup →
    let busy := ∃ g ∈ s.web.queue, g.kind = .print ∨ g.kind = .index
    (s.engine.state = .setup → exec .enterSetup s = .next (s.answered rest (accepts f [0])))
    ∧ (s.engine.state = .recovery → exec .enterSetup s = .next (s.answered rest (refuses f .mode)))
    ∧ (s.engine.state = .run ∨ s.engine.state = .paused →
      (busy → exec .enterSetup s = .next (s.answered rest (refuses f .webBusy)))
      ∧ (¬ busy →
        let u := (s.taken rest).setupFromWork
        exec .enterSetup s = .next (u.repliesAfter (accepts f [0]))
        ∧ u.engine = { s.engine with state := .setup } ∧ (∀ c ∈ u.expo.calls, c.state = .exposing)
        ∧ u.expo.miss = 0 ∧ u.mags.change = .idle ∧ u.web = { s.web with purge := none }
        ∧ (u.repliesAfter (accepts f [0])).web.transport = .stopped
        ∧ u.sched = s.sched ∧ u.sorter = s.sorter ∧ u.cutter = s.cutter ∧ u.pricing = s.pricing ∧ u.stop = s.stop
        ∧ u.mags.magA = s.mags.magA ∧ u.mags.magB = s.mags.magB ∧ u.mags.selector = s.mags.selector
        ∧ ∀ i, (u.order i).map Order.state = (s.order i).map Order.state)))
  ∧ (∀ (s : State) (f : Frame) (rest : List Frame), s.Offers f rest .enterSetup → s.engine.state = .halted →
    let u := (s.taken rest).setupFromHalt
    let live := s.web.queue.filter fun g =>
      g.void.isNone && (g.kind == .print || g.kind == .index) && g.copy.isSome
    exec .enterSetup s = .next (u.repliesAfter (accepts f (b1 live.length)))
    ∧ u.engine = { s.engine with state := .setup, webUnknown := true }
    ∧ u.stop.causes = [] ∧ u.stop.ret = none ∧ u.stop.soak = none ∧ u.stop.latch = s.stop.latch
    ∧ u.web.queue = s.web.queue.map (fun g =>
        if g.void.isNone && (g.kind == .print || g.kind == .index) && g.copy.isSome
        then { g with void := some .haltVoid } else g)
    ∧ u.expo.miss = 0 ∧ (∀ c ∈ u.expo.calls, c.state ≠ .awaitingDone) ∧ u.cutter.count = s.cutter.count
    ∧ u.cutter.recovery.kind = .none ∧ u.mags = s.mags ∧ (u.repliesAfter (accepts f (b1 live.length))).web.transport = .stopped
    ∧ ((∀ g ∈ live, ∀ k, g.copy = some k → ∀ o, s.order k.slot = some o → o.state ≠ .printing) →
        u.orders = s.orders ∧ u.sched = s.sched ∧ u.link.notices = s.link.notices))

/-- ENTER RUN is refused by its first failing check; otherwise the engine goes to HALTED with the halt cause CUTTER at
a fault count of 255, to RECOVERY for a short recovery when one is due, and to RUN else, with a purge where the web is
unknown (R184, R120, R100). A purge that begins over an open check abandons it with no move of the count and cuts its
segment to waste in the same event (R111, R107). -/
def Obligations.EnterRunGoesThreeWays : Prop :=
  ∀ (s : State) (f : Frame) (rest : List Frame), s.Offers f rest .enterRun →
    let refused := fun code => exec .enterRun s = .next (s.answered rest (refuses f code))
    let paper := ∃ (m : MagId) (r : MagRec), s.mags.get m = some r ∧ r.state ≠ .empty
    let jam := s.stop.j1 = true ∨ s.stop.j2 = true ∨ s.stop.j3 = true
    let right := s.web.stations.pIn < s.web.stations.pOut ∧ s.web.stations.pOut < s.web.stations.dry
      ∧ s.web.stations.dry < s.web.stations.cut ∧ s.web.stations.cut ≤ 150000
    (s.engine.state ≠ .setup → refused .mode)
    ∧ (s.engine.state = .setup → ¬ paper → refused .noPaper)
    ∧ (s.engine.state = .setup → paper → jam → refused .condition)
    ∧ (s.engine.state = .setup → paper → ¬ jam → ¬ right → refused .badValue)
    ∧ (s.engine.state = .setup → paper → ¬ jam → right →
      let u := (s.taken rest).goToWork
      exec .enterRun s = .next (u.repliesAfter (accepts f (b1 u.engine.state.code)))
      ∧ (s.cutter.count = 255 → s.stop.causes = [] → s.expo.calls = [] →
        u.engine = { s.engine with state := .halted } ∧ u.stop.causes = [.cutter] ∧ u.stop.ret = some .run
          ∧ u.Raised s (.halted .cutter [.cutter] .run none) ∧ u.web.transport = .stopped)
      ∧ (s.cutter.count ≠ 255 → s.cutter.recovery.shortDue = true →
        u.engine = { s.engine with state := .recovery } ∧ u.cutter.recovery = ⟨.short, 8, 8, 0, 0, .run, false⟩
          ∧ u.web = s.web ∧ u.stop = s.stop ∧ u.orders = s.orders ∧ u.link.notices = s.link.notices)
      ∧ (s.cutter.count ≠ 255 → s.cutter.recovery.shortDue = false →
        u.engine = { s.engine with state := .run } ∧ u.stop.causes = s.stop.causes ∧ u.stop.ret = s.stop.ret
        ∧ u.cutter.recovery = s.cutter.recovery
        ∧ (s.cutter.check = none ∨ s.engine.webUnknown = false →
          u.web.queue = s.web.queue ∧ u.cutter.check = s.cutter.check ∧ u.orders = s.orders ∧ u.stop = s.stop
          ∧ u.link.notices = s.link.notices
          ∧ u.web.purge = if s.engine.webUnknown then some ⟨s.purgeDistance, 0⟩ else s.web.purge)
        ∧ ∀ k g rest, s.engine.webUnknown = true → s.cutter.check = some k → s.web.queue = g :: rest → g.sid = k.sid →
          (∀ x ∈ rest, x.sid ≠ g.sid) → s.ShortOfBlade rest → s.PurgeOverCheck u g rest))

/-- PAUSE moves RUN to PAUSED and withdraws the calls that have not begun exposing, each with a CALL CANCEL, or by
taking its unsent FRAME CALL off the port (R84, R70); CONTINUE moves PAUSED to RUN and prompts a pass; each is
accepted without change in the state it leads to and refused elsewhere (R185). That of two calls the older is
withdrawn first is the model's choice (log entry 42). -/
def Obligations.PauseAndContinue : Prop :=
  ∀ (s : State) (f : Frame) (rest : List Frame),
    (s.Offers f rest .pause →
      (s.engine.state = .paused → exec .pause s = .next (s.answered rest (accepts f [2#8])))
      ∧ (s.engine.state = .setup ∨ s.engine.state = .halted ∨ s.engine.state = .recovery →
        exec .pause s = .next (s.answered rest (refuses f .mode)))
      ∧ (s.engine.state = .run →
        let u := ((s.taken rest).enterEngine .paused).withdraw fun _ => true
        exec .pause s = .next (u.repliesAfter (accepts f [2#8]))
        ∧ u.engine = { s.engine with state := .paused }
        ∧ (∀ c ∈ u.expo.calls, c ∈ s.expo.calls ∧ (c.state = .exposing ∨ c.state = .awaitingDone))
        ∧ (∀ c ∈ s.expo.calls, (c.state = .exposing ∨ c.state = .awaitingDone) →
            (∀ d ∈ s.expo.calls, d.tag = c.tag → d = c) → c ∈ u.expo.calls)
        ∧ u.expo.port = ((s.expo.calls.filter fun c => c.state == .preparing || c.state == .ready).map Call.tag).foldl
            (portCancel s.expo.portBusy) s.expo.port
        ∧ u.orders = s.orders ∧ u.sched = s.sched ∧ u.mags = s.mags ∧ u.web = s.web ∧ u.cutter = s.cutter
        ∧ u.sorter = s.sorter ∧ u.pricing = s.pricing ∧ u.stop = s.stop ∧ u.link.notices = s.link.notices))
    ∧ (s.Offers f rest .continueRun →
      (s.engine.state = .run → exec .continueRun s = .next (s.answered rest (accepts f [1#8])))
      ∧ (s.engine.state = .setup ∨ s.engine.state = .halted ∨ s.engine.state = .recovery →
        exec .continueRun s = .next (s.answered rest (refuses f .mode)))
      ∧ (s.engine.state = .paused →
        exec .continueRun s = .next (State.repliesAfter
          (State.prompt (State.stripTest (State.transportTest
            { s.taken rest with engine := { s.engine with state := .run } }))) (accepts f [1#8]))))

/-- RESUME is refused outside HALTED and while a jam sensor is asserted; it removes JAM and RASTER, and MAGAZINE when
a magazine is LOADED, keeps CUTTER, and with no cause left brings the engine back to the return state (R170), with a
purge where the web is unknown, which abandons an open check and cuts its segment to waste (R100, R111). CUTTER
RESTART is refused outside HALTED, and where CUTTER is not the only cause or a jam sensor is asserted; otherwise the
fault count is 127, a FULL recovery of 128 marks begins, CUTTER leaves the cause set, the engine is in RECOVERY and
the transport runs (R115). -/
def Obligations.ResumeAndCutterRestart : Prop :=
  (∀ (s : State) (f : Frame) (rest : List Frame), s.Offers f rest .resume →
    let jam := s.stop.j1 = true ∨ s.stop.j2 = true ∨ s.stop.j3 = true
    let loaded : Bool := (s.mags.magA.any fun r => r.state == .loaded) || s.mags.magB.any fun r => r.state == .loaded
    let left := s.stop.causes.filter fun c => c == .cutter || (c == .magazine && !loaded)
    (s.engine.state ≠ .halted → exec .resume s = .next (s.answered rest (refuses f .mode)))
    ∧ (s.engine.state = .halted → jam → exec .resume s = .next (s.answered rest (refuses f .condition)))
    ∧ (s.engine.state = .halted → ¬ jam → left ≠ [] →
      exec .resume s = .next (State.answered (State.annunciate { s with
        stop := { s.stop with causes := left }
        expo := if HaltCause.raster ∈ s.stop.causes then { s.expo with miss := 0 } else s.expo }) rest
        (accepts f (b1 (causesCode left) ++ [3]))))
    ∧ (s.engine.state = .halted → ¬ jam → left = [] →
      let u := (s.taken rest).resumed
      exec .resume s = .next (u.repliesAfter (accepts f ([0] ++ b1 u.engine.state.code)))
      ∧ u.stop.causes = [] ∧ u.stop.ret = none ∧ u.stop.soak = none
      ∧ u.expo.miss = (if HaltCause.raster ∈ s.stop.causes then 0 else s.expo.miss)
      ∧ (∀ e, s.stop.ret = some e → u.engine = { s.engine with state := e })
      ∧ (s.stop.ret = some .recovery → u.cutter.recovery =
          { s.cutter.recovery with remaining := s.cutter.recovery.runLength, checked := 0, entered := 0 })
      ∧ (s.engine.webUnknown = true → (s.stop.ret = some .run ∨ s.stop.ret = some .paused) →
          u.web.purge = some ⟨s.purgeDistance, 0⟩
          ∧ (s.cutter.check = none → u.web.queue = s.web.queue ∧ u.orders = s.orders)
          ∧ ∀ k g behind, s.cutter.check = some k → s.web.queue = g :: behind → g.sid = k.sid →
            (∀ x ∈ behind, x.sid ≠ g.sid) → s.ShortOfBlade behind → s.PurgeOverCheck u g behind)
      ∧ (s.engine.webUnknown = false → u.web = s.web ∧ u.cutter.check = s.cutter.check ∧ u.orders = s.orders ∧ u.sorter = s.sorter
          ∧ u.mags = s.mags ∧ u.sched = s.sched ∧ u.pricing = s.pricing ∧ u.link.notices = s.link.notices)))
  ∧ (∀ (s : State) (f : Frame) (rest : List Frame), s.Offers f rest .cutterRestart →
    let jam := s.stop.j1 = true ∨ s.stop.j2 = true ∨ s.stop.j3 = true
    let alone := s.stop.causes ≠ [] ∧ ∀ c ∈ s.stop.causes, c = .cutter
    (s.engine.state ≠ .halted → exec .cutterRestart s = .next (s.answered rest (refuses f .mode)))
    ∧ (s.engine.state = .halted → (¬ alone ∨ jam) →
      exec .cutterRestart s = .next (s.answered rest (refuses f .condition)))
    ∧ (s.engine.state = .halted → alone → ¬ jam → (s.stop.ret = some .run ∨ s.stop.ret = some .paused) →
      let u := (s.taken rest).startFull
      let t := u.repliesAfter (accepts f [127#8])
      exec .cutterRestart s = .next t
      ∧ u.engine = { s.engine with state := .recovery }
      ∧ u.cutter = { s.cutter with
          count := 127, recovery := ⟨.full, 128, 128, 0, 0, s.stop.ret.getD .run, s.cutter.recovery.shortDue⟩ }
      ∧ u.stop.causes = [] ∧ u.stop.ret = none ∧ u.stop.latch = s.stop.latch ∧ u.orders = s.orders
      ∧ u.web = s.web ∧ u.expo = s.expo ∧ u.mags = s.mags ∧ u.sorter = s.sorter ∧ u.sched = s.sched
      ∧ u.pricing = s.pricing ∧ u.link.notices = s.link.notices
      ∧ t.web.transport = .running ∧ (s.web.transport = .stopped → t.stop.soak = none)))

/-! ## Raster calls -/

/-- A READY for a call in PREPARING makes it READY, cancels its timer and clears the miss count; a READY for a call in
any other state is ignored (R74). DONE GOOD: kept as the early status of a call that is exposing, the end of a call
that awaits it, ignored for a call that has not begun; a second DONE for a call that is exposing is ignored (R80). -/
def Obligations.ReadyAndDoneGood : Prop :=
  (∀ (s : State) (c : Call), s.engine.resetAsserted = false → s.call c.tag = some c →
    (c.state = .preparing → exec (.ready c.tag) s = .next (State.ended (State.transportTest (State.headTest
      { s.fresh with expo := { s.expo with
          miss := 0
          calls := s.expo.calls.map fun d =>
            if d.tag = c.tag then { d with state := .ready, timer := none } else d } }))))
    ∧ (c.state ≠ .preparing → exec (.ready c.tag) s = .next { s with due := Due.none }))
  ∧ (∀ (s : State) (c : Call), s.engine.resetAsserted = false → s.call c.tag = some c →
    let same : Host.Outcome State Fault Refusal := .next { s with due := Due.none }
    (c.state = .exposing → c.early = none → exec (.done c.tag .good) s = .next { s with
      expo := { s.expo with
        calls := s.expo.calls.map fun d => if d.tag = c.tag then { d with early := some .good } else d }
      due := Due.none })
    ∧ (c.state = .exposing → c.early ≠ none → ∀ st, exec (.done c.tag st) s = same)
    ∧ (c.state = .preparing ∨ c.state = .ready → exec (.done c.tag .good) s = same)
    ∧ (c.state = .awaitingDone → exec (.done c.tag .good) s = .next (State.ended (State.transportTest (State.headTest
        (State.prompt { s.fresh with expo := { s.expo with
          calls := s.expo.calls.filter fun d => d.tag != c.tag } }))))))

/-- A READY or DONE whose tag matches no call changes no state (R82). -/
def Obligations.UnmatchedRecordsAreIgnored : Prop :=
  ∀ (s : State) (tag : Nat) (st : DoneStatus), (∀ c ∈ s.expo.calls, c.tag ≠ tag) → s.due = Due.none →
    exec (.ready tag) s = .next s ∧ exec (.done tag st) s = .next s

/-- DONE FAULT: a call that has not begun leaves and the miss count rises, to 3 with the halt cause RASTER at the
third miss; the segment of a call that is exposing or awaits its DONE is voided as a raster fault, and the call
awaiting it leaves (R80, R83, R163, R165). -/
def Obligations.DoneFault : Prop :=
  ∀ (s : State) (c : Call), s.engine.resetAsserted = false → s.call c.tag = some c →
    (c.state = .preparing ∨ c.state = .ready → s.expo.miss < 2 →
      exec (.done c.tag .fault) s = .next (State.ended (State.transportTest (State.headTest (State.prompt
        { s.fresh with expo := { s.expo with
          calls := s.expo.calls.filter fun d => d.tag != c.tag, miss := s.expo.miss + 1 } })))))
    ∧ (c.state = .preparing ∨ c.state = .ready → 2 ≤ s.expo.miss →
      let u := State.takeDone c.tag .fault s.fresh
      exec (.done c.tag .fault) s = .next u.ended ∧ u.expo.miss = 3 ∧ s.CauseTaken u .raster
      ∧ (∀ d ∈ u.expo.calls, d.tag ≠ c.tag)
      ∧ ((∀ d ∈ s.expo.calls, d.state ≠ .exposing) → u.orders = s.orders ∧ u.web.queue = s.web.queue))
    ∧ (∀ sid, c.segment = some sid → c.state = .exposing → c.early = none →
      let marked := { s.fresh with expo := { s.expo with
        calls := s.expo.calls.map fun d => if d.tag = c.tag then { d with early := some .fault } else d } }
      let u := State.voidSegments marked .rasterFault (fun g => g.sid == sid)
      exec (.done c.tag .fault) s = .next u.ended
      ∧ (∀ g ∈ u.web.queue, g.sid = sid → (g.kind = .print ∨ g.kind = .index) → g.copy ≠ none → g.void ≠ none)
      ∧ u.web.queue.map (fun g => (g.sid, g.lead)) = s.web.queue.map (fun g => (g.sid, g.lead))
      ∧ u.expo = marked.expo ∧ u.mags = s.mags ∧ u.engine = s.engine ∧ u.cutter = s.cutter)
    ∧ ∀ sid, c.segment = some sid → c.state = .awaitingDone →
      let u := State.removeCall (State.voidSegments s.fresh .rasterFault (fun g => g.sid == sid)) c.tag
      exec (.done c.tag .fault) s = .next u.ended
      ∧ (∀ g ∈ u.web.queue, g.sid = sid → (g.kind = .print ∨ g.kind = .index) → g.copy ≠ none → g.void ≠ none)
      ∧ u.web.queue.map (fun g => (g.sid, g.lead)) = s.web.queue.map (fun g => (g.sid, g.lead))
      ∧ u.expo = { s.expo with calls := s.expo.calls.filter fun d => d.tag != c.tag }
      ∧ u.mags = s.mags ∧ u.engine = s.engine ∧ u.cutter = s.cutter

/-- A READY timer abandons its call with a CALL CANCEL, which takes an unsent FRAME CALL of the tag off the port
instead (R70), a DONE timer voids the segment and removes the call with no record sent; each raises the miss count,
and the third miss raises RASTER, which halts RUN, PAUSED and RECOVERY, joins the causes in HALTED, and is not added in
SETUP (R75, R81, R83, R163, R165). An expiry with no such timer running is not due, which is the model's choice (log
entry 3). -/
def Obligations.RasterTimersExpire : Prop :=
  ∀ (s : State) (c : Call), s.engine.resetAsserted = false → s.call c.tag = some c →
    (c.state = .preparing →
      let u := State.readyExpired c.tag s.fresh
      exec (.readyTimerExpired c.tag) s = .next u.ended
      ∧ (s.expo.miss < 2 → u.expo.miss = s.expo.miss + 1 ∧ u.engine = s.engine
          ∧ u.expo.calls = s.expo.calls.filter (fun d => d.tag != c.tag)
          ∧ u.expo.port = portCancel s.expo.portBusy s.expo.port c.tag
          ∧ u.orders = s.orders ∧ u.web = s.web ∧ u.mags = s.mags ∧ u.stop = s.stop)
      ∧ (2 ≤ s.expo.miss → u.expo.miss = 3 ∧ s.CauseTaken u .raster ∧ ∀ d ∈ u.expo.calls, d.tag ≠ c.tag))
    ∧ (c.state ≠ .preparing → exec (.readyTimerExpired c.tag) s = .next { s with due := Due.none })
    ∧ (∀ sid, c.segment = some sid → c.state = .awaitingDone →
      let u := State.doneExpired c.tag s.fresh
      exec (.doneTimerExpired c.tag) s = .next u.ended
      ∧ (s.expo.miss < 2 →
          u.expo = { s.expo with
            calls := s.expo.calls.filter (fun d => d.tag != c.tag), miss := s.expo.miss + 1 }
          ∧ u.engine = s.engine ∧ u.mags = s.mags ∧ u.cutter = s.cutter
          ∧ (∀ g ∈ u.web.queue, g.sid = sid → (g.kind = .print ∨ g.kind = .index) → g.copy ≠ none → g.void ≠ none)
          ∧ u.web.queue.map (fun g => (g.sid, g.lead)) = s.web.queue.map (fun g => (g.sid, g.lead)))
      ∧ (2 ≤ s.expo.miss → u.expo.miss = 3 ∧ s.CauseTaken u .raster ∧ ∀ d ∈ u.expo.calls, d.tag ≠ c.tag))
    ∧ (c.state ≠ .awaitingDone → exec (.doneTimerExpired c.tag) s = .next { s with due := Due.none })

/-- Exposure begins for the READY call whose turn it is, when the head is free and the paper suits: the call exposes,
the gate opens, a live segment stands at the exposure line, the copy is counted as on the web (R76, R77, R23). With a
call exposing in front of it, or the head not free in another way, nothing happens. A call whose paper does not suit
is refused with a CALL CANCEL, which takes an unsent FRAME CALL of the tag off the port instead (R70), and the one
behind it is tested in its turn (R78). That RUN is asked for outright is read from R76 (log entry 27), and that a
begin which is not due changes nothing is the model's choice (log entry 3). -/
def Obligations.ExposureBegins : Prop :=
  (∀ s : State, s.engine.resetAsserted = false →
    (∀ past d later, s.expo.calls = past ++ d :: later → (∀ e ∈ past, e.state = .exposing ∨ e.state = .awaitingDone) →
      d.state ≠ .ready) → exec .exposureBegin s = .next { s with due := Due.none })
  ∧ ∀ (s : State) (c : Call) (past later : List Call), s.engine.resetAsserted = false →
    s.expo.calls = past ++ c :: later → (∀ d ∈ past, d.state = .exposing ∨ d.state = .awaitingDone) →
    c.state = .ready →
    let free := s.engine.state = .run ∧ (∀ d ∈ s.expo.calls, d.state ≠ .exposing) ∧ s.expo.trailing = none
      ∧ (∀ g, s.web.queue.getLast? = some g → (g.gap : Int) ≤ g.lead - g.length) ∧ s.web.queue.length < 192
    let paper := fun d : Call => s.mags.change = .idle ∧ ∃ (m : MagId) (r : MagRec), s.mags.selector = some m
      ∧ s.mags.get m = some r ∧ r.state = .active ∧ r.width = d.width ∧ d.length + d.gap ≤ r.remaining
    (free → paper c →
      let u := State.beginExposure s.fresh c
      exec .exposureBegin s = .next u.ended
      ∧ u.expo = { s.expo with
          trailing := some s.web.nextSid
          calls := s.expo.calls.map fun d =>
            if d.tag = c.tag then { d with state := .exposing, segment := some s.web.nextSid } else d }
      ∧ u.lines = { s.lines with exposeGate := true }
      ∧ u.web = { s.web with
          nextSid := s.web.nextSid + 1
          queue := s.web.queue ++ [⟨s.web.nextSid, if c.kind = .index then .index else .print, some ⟨c.slot, c.line⟩, 0,
            c.length, c.width, c.gap, none, false, c.tag⟩] }
      ∧ u.mags = s.mags ∧ u.cutter = s.cutter ∧ u.sorter = s.sorter ∧ u.engine = s.engine ∧ u.stop = s.stop
      ∧ u.link = s.link ∧ (∀ i, i ≠ c.slot → u.order i = s.order i)
      ∧ ∀ (o : Order) (l : Line), s.order c.slot = some o → o.state = .printing → o.line c.line = some l →
          0 < l.queued →
          u.order c.slot = some { o with
            inFlight := o.inFlight + 1
            lines := o.lines.set (c.line - 1)
              { l with queued := l.queued - 1, owed := l.owed - 1, onWeb := l.onWeb + 1 } }
          ∧ (o.owedTotal = 1 → 0 < l.owed → u.sched = { s.sched with
              remake := s.sched.remake.filter (· != c.slot) }))
    ∧ (free → ¬ paper c →
      let u := State.cancelCall s.fresh c
      u.expo.calls = s.expo.calls.filter (fun d => d.tag != c.tag) ∧ u.expo.miss = s.expo.miss
      ∧ u.expo.port = portCancel s.expo.portBusy s.expo.port c.tag
      ∧ u.orders = s.orders ∧ u.web = s.web ∧ u.mags = s.mags ∧ u.lines = s.lines
      ∧ (later = [] → exec .exposureBegin s = .next u.ended)
      ∧ ∀ d, later = [d] → (∀ e ∈ past ++ [d], e.tag ≠ c.tag) →
          (d.state ≠ .ready → exec .exposureBegin s = .next u.ended)
          ∧ (d.state = .ready → paper d → exec .exposureBegin s = .next (State.ended (u.beginExposure d)))
          ∧ (d.state = .ready → ¬ paper d → exec .exposureBegin s = .next (State.ended (u.cancelCall d))))
    ∧ (¬ free → exec .exposureBegin s = .next { s with due := Due.none })

/-- Exposure ends once the trail of the segment stands at the exposure line: the gate closes, the mark is written, the
trailing-segment record clears, and the call awaits its DONE with the timer of 1000 ms, or leaves when its DONE has
come early; an abandoned frame gets its mark alone (R79). That the event changes nothing before that, when it is not
due, is the model's choice (log entry 3). -/
def Obligations.ExposureEnds : Prop :=
  ∀ (s : State) (sid : Nat) (g : Segment), s.engine.resetAsserted = false → s.segment sid = some g →
    (s.expo.trailing = some sid → 0 ≤ g.lead - (g.length : Int) →
      let lines := { s.lines with strobes := s.lines.strobes ++ [.markWritten sid] }
      (∀ c, s.expo.exposingSegment sid = some c → c.early = none →
        exec .exposureEnd s = .next (State.ended (State.transportTest (State.prompt (State.stripTest (State.headTest
          { s.fresh with
            lines := { lines with exposeGate := false }
            expo := { s.expo with
              trailing := none
              calls := s.expo.calls.map fun d =>
                if d.tag = c.tag then { d with state := .awaitingDone, timer := some 1000 } else d } }))))))
      ∧ (∀ c, s.expo.exposingSegment sid = some c → c.early ≠ none →
        exec .exposureEnd s = .next (State.ended (State.transportTest (State.prompt (State.stripTest (State.headTest
          { s.fresh with
            lines := { lines with exposeGate := false }
            expo := { s.expo with
              trailing := none, calls := s.expo.calls.filter fun d => d.tag != c.tag } }))))))
      ∧ (s.expo.exposingSegment sid = none →
        exec .exposureEnd s = .next (State.ended (State.stripTest (State.headTest
          { s.fresh with lines := lines, expo := { s.expo with trailing := none } })))))
    ∧ (s.expo.trailing = none ∨ (s.expo.trailing = some sid ∧ g.lead - (g.length : Int) < 0) →
      exec .exposureEnd s = .next { s with due := Due.none })

/-- Bytes of a READY or DONE record that passes the port's checks are that record; a frame that fails a check leaves
no trace; the send queue begins its next record when one has been sent (R70). A length outside 2..258, and one that is
not that of the kind, is impossible, and the receiver hunts on from the byte after it (R70, R177; log entry 11). That a
record sent with none being sent is not due and changes nothing is the model's choice (log entry 3). -/
def Obligations.RasterPortReadsAndSends : Prop :=
  ∀ s : State, s.engine.resetAsserted = false →
    (s.expo.rx = none →
      (∀ (t : Byte) (tag : Nat), 1 ≤ tag → tag ≤ 65535 →
        exec (.rasterFrameDiscard (frameBytes 0x11#8 t (b2 tag)) false) s = exec (.ready tag) s
        ∧ exec (.rasterFrameDiscard (frameBytes 0x12#8 t (b2 tag ++ [0])) false) s = exec (.done tag .good) s
        ∧ exec (.rasterFrameDiscard (frameBytes 0x12#8 t (b2 tag ++ [1])) false) s = exec (.done tag .fault) s)
      ∧ (∀ (kind t : Byte) (body : List Byte), body.length ≤ 256 →
        ((kind ≠ 0x11#8 ∧ kind ≠ 0x12#8) ∨ (kind = 0x11#8 ∧ body = [0, 0])
          ∨ (kind = 0x12#8 ∧ ∃ h l st, body = [h, l, st] ∧ ((h = 0 ∧ l = 0) ∨ (st ≠ 0 ∧ st ≠ 1)))) →
        exec (.rasterFrameDiscard (frameBytes kind t body) false) s = .next s)
      ∧ (∀ (kind t : Byte) (body : List Byte) (h l : Byte), body.length ≤ 256 →
        (kind = 0x11#8 → body.length = 2) → (kind = 0x12#8 → body.length = 3) →
        be16 h l ≠ (crc (frameCore kind t body)).toNat →
        exec (.rasterFrameDiscard (0xA5#8 :: frameCore kind t body ++ [h, l]) false) s = .next s)
      ∧ (∀ (h l : Byte) (bytes : List Byte) (stalls : Bool), be16 h l < 2 ∨ 258 < be16 h l →
        exec (.rasterFrameDiscard (0xA5#8 :: h :: l :: bytes) stalls) s = exec (.rasterFrameDiscard bytes stalls) s)
      ∧ ∀ (h l kind : Byte) (bytes : List Byte) (stalls : Bool),
        (kind = 0x11#8 ∧ be16 h l ≠ 4) ∨ (kind = 0x12#8 ∧ be16 h l ≠ 5) →
        exec (.rasterFrameDiscard (0xA5#8 :: h :: l :: kind :: bytes) stalls) s
          = exec (.rasterFrameDiscard bytes stalls) s)
    ∧ exec (.rasterFrameDiscard [] true) s = .next { s with expo := { s.expo with rx := none } }
    ∧ (∀ r rest, s.expo.portBusy = true → s.expo.port = r :: rest →
      exec .rasterRecordSent s = .next { s with
        expo := { s.expo with port := rest, portBusy := !rest.isEmpty }, due := Due.none })
    ∧ (s.expo.portBusy = false → exec .rasterRecordSent s = .next { s with due := Due.none })

/-! ## Web, paper and cutter -/

/-- An encoder event moves every segment and the mark downstream and uses the paper of the active roll; with the
transport not RUNNING it is discarded (R93, R35, R106). The rest of the event is stated case by case: nothing more
while nothing is due at the head and the oldest segment is short of the cutter; an exposure that ends or begins (R79,
R76); a purge that counts, chops and ends (R101, R107, R102), with the oldest segment cut to waste at the blade, a
live print voided as a halt void, owed again and off the in-flight count (R107, R97, R24); a segment presented at the
blade by its kind and its mark, the one behind it short of CUT_POS (R96, R107, R108, R116); an open check that stays
or is missed (R108). The engine is not HALTED while the transport runs (TransportInvariant). The active roll runs down
to 0 and no lower: PAPER LOW is queued once, when remaining first falls below the low threshold, and at 0 the roll is
EMPTY and MAGAZINE EMPTY is queued, with the paper check of RUN and PAUSED behind it (R35, R36, R38, R30); which of
the two is queued first, and that PAPER NEEDED comes behind them, is the model's choice (log entries 34 and 50). The
sequence of the parts is read from R93 (log entry 7). -/
def Obligations.EncoderMovesWebAndPaper : Prop :=
  (∀ (s : State) (d : Nat), s.engine.resetAsserted = false →
    (s.web.transport ≠ .running → exec (.encoderEvent d) s = .next { s with due := Due.none })
    ∧ (s.web.transport = .running → ∀ g : Magazines, s.PaperMoved d g →
      let m := s.movedBy d g
      let ends := fun u : State => exec (.encoderEvent d) s = .next u.encoderEnded
      let e := fun x : Segment => x.lead - (x.length : Int) + (d : Int) - (s.web.stations.cut : Int)
      let short := ∀ x, s.web.queue.head? = some x → e x < 0
      let still := s.HeadQuiet d
      let behind := fun rest : List Segment => ∀ z, rest.head? = some z → e z < 0
      let tail : State := { m with web := { m.web with queue := m.web.queue.tail } }
      (still → s.web.purge = none → s.cutter.check = none → short → ends m)
      ∧ (s.web.purge = none → s.cutter.check = none → short →
        (∀ sid x c, s.expo.trailing = some sid → s.segment sid = some x →
          0 ≤ x.lead - (x.length : Int) + (d : Int) → s.expo.exposingSegment sid = some c → c.early = none →
          ends (State.exposeTest 3 (State.prompt { m with
            lines := { m.lines with strobes := m.lines.strobes ++ [.markWritten sid], exposeGate := false }
            expo := { s.expo with
              trailing := none
              calls := s.expo.calls.map fun k =>
                if k.tag = c.tag then { k with state := .awaitingDone, timer := some 1000 } else k } })))
        ∧ (∀ c, s.expo.trailing = none → s.expo.calls = [c] → c.state = .ready → s.engine.state = .run →
          s.web.queue.length < 192 → 0 < c.length →
          (∀ x, s.web.queue.getLast? = some x → (x.gap : Int) ≤ x.lead - (x.length : Int) + (d : Int)) →
          g.paperTest c.width c.length c.gap = true → ends (m.beginExposure c)))
      ∧ (still → s.cutter.check = none → ∀ p, s.web.purge = some p →
        let c := s.cutter.chop + d
        let n : State := { m with
          web := { m.web with purge := some { p with moved := min (p.moved + d) 200000 } }
          cutter := { m.cutter with chop := c % 1000 }
          lines := { m.lines with strobes := m.lines.strobes ++ List.replicate (c / 1000) .bladeChop } }
        (s.web.queue ≠ [] → short → ends n)
        ∧ (s.web.queue = [] → ((min (p.moved + d) 200000 : Nat) : Int) < p.target → ends n)
        ∧ (s.web.queue = [] → p.target ≤ ((min (p.moved + d) 200000 : Nat) : Int) → ends (State.prompt
            { n with web := { n.web with purge := none }, engine := { s.engine with webUnknown := false } }))
        ∧ (∀ x rest, s.web.queue = x :: rest → behind rest → 0 ≤ e x → x.presented = false →
          let y : Segment := { x with lead := x.lead + (d : Int), presented := true }
          let gone : State := { n with web := { n.web with queue := n.web.queue.tail } }
          let cut : Lines := { n.lines with strobes := n.lines.strobes ++ [.bladeAtTrail (e x)] }
          (x.kind = .paperEnd → x.copy = none → ends (State.purgeEndTest gone.prompt))
          ∧ (x.kind = .markStrip → x.copy = none → (∀ z ∈ rest, z.sid ≠ x.sid) →
            ends (State.purgeEndTest (State.prompt { gone with lines := cut })))
          ∧ (x.kind = .print ∨ x.kind = .index → (∀ z ∈ rest, z.sid ≠ x.sid) → ∀ c, x.copy = some c →
            let u := State.cutToWaste (State.serve (rest.length + 1))
              { n with web := { n.web with queue := y :: n.web.queue.tail } } y
            ends u.purgeEndTest ∧ u.web = gone.web ∧ u.lines.strobes = cut.strobes ∧ u.cutter = n.cutter ∧ u.mags = n.mags
            ∧ u.expo = n.expo ∧ u.engine = n.engine ∧ u.sorter.transit = s.sorter.transit
            ∧ (∀ i, i ≠ c.slot → u.order i = s.order i)
            ∧ ∀ o, s.order c.slot = some o → o.state = .printing → s.CountsInv → s.Counted [c] →
              u.order c.slot = some { (if x.void = none then o.owing c.slot [c] else o) with inFlight := o.inFlight - 1 }
              ∧ u.lines = cut ∧ u.sorter = s.sorter ∧ u.link = s.link
              ∧ (x.void = none → o.owedTotal = 0 → c.slot ∈ u.sched.remake))))
      ∧ (still → s.web.purge = none → s.cutter.check = none → ∀ x rest, s.web.queue = x :: rest → behind rest →
        0 ≤ e x → x.presented = false →
        let y : Segment := { x with lead := x.lead + (d : Int), presented := true }
        let n : State := { m with web := { m.web with queue := y :: m.web.queue.tail } }
        let near := ∃ k, m.cutter.mark = some k ∧ k.matched = false ∧ (k.m : Int) - e x ≤ s.cutter.markWindow
          ∧ e x - (k.m : Int) ≤ s.cutter.markWindow
        let gone : State := tail.prompt
        (x.kind = .paperEnd → x.copy = none → ends gone)
        ∧ (x.kind = .markStrip → x.copy = none → s.engine.state ≠ .recovery → ends
            { gone with lines := { m.lines with strobes := m.lines.strobes ++ [.bladeAtTrail (e x)] } })
        ∧ (((x.kind = .print ∨ x.kind = .index) ∧ s.engine.state ≠ .halted)
            ∨ (x.kind = .markStrip ∧ s.engine.state = .recovery) →
            (near → ends (State.purgeEndTest (State.closeCheck (State.serve (rest.length + 1)) true n y)))
            ∧ (¬ near → (s.cutter.markWindow : Int) < e x →
              ends (State.purgeEndTest (State.closeCheck (State.serve (rest.length + 1)) false n y)))
            ∧ (¬ near → e x ≤ s.cutter.markWindow →
              ends { n with cutter := { m.cutter with check := some ⟨x.sid, s.cutter.markWindow⟩ } })))
      ∧ (still → s.web.purge = none → ∀ x rest k, s.web.queue = x :: rest → x.presented = true →
        s.cutter.check = some k → k.sid = x.sid →
        (e x ≤ k.window → ends m)
        ∧ ((k.window : Int) < e x → behind rest → ends (State.purgeEndTest
            (State.closeCheck State.serveBlade false m { x with lead := x.lead + (d : Int) }))))))
  ∧ (∀ (s : State) (d : Nat) (m : MagId) (r : MagRec), s.mags.selector = some m → s.mags.get m = some r →
    r.state = .active → s.link.notices.length ≤ 30 →
    let u := s.usePaper d
    let low := decide (r.remaining - d < r.low) && !r.lowReported
    let gone := decide (r.remaining ≤ d)
    u.mags = s.mags.put m (some { r with
      remaining := r.remaining - d, lowReported := r.lowReported || low
      state := if gone = true then .empty else .active })
    ∧ (∃ needed, u.link.notices = s.link.notices ++ (if low = true then [.paperLow m r.width (r.remaining - d)] else [])
        ++ (if gone = true then [.magazineEmpty m r.width] else []) ++ needed
      ∧ (gone = false ∨ (s.engine.state ≠ .run ∧ s.engine.state ≠ .paused) → needed = [] ∧ u.orders = s.orders))
    ∧ u.sched = s.sched ∧ u.web = s.web ∧ u.expo = s.expo ∧ u.cutter = s.cutter
    ∧ u.sorter = s.sorter ∧ u.pricing = s.pricing ∧ u.engine = s.engine ∧ u.stop.causes = s.stop.causes)

/-- The changeover from feed cut to paper at head (R40 to R42): the feed cut of a PENDING changeover waits for a
clear head; the paper at the head ends the threading; the threading timer ends it with MAGAZINE, taken as the engine
state has it (R163, R165), behind the report that the paper has changed, which is the model's choice (log entry 35).
That a feed cut or an expiry out of its place changes nothing is the model's choice (log entry 3). -/
def Obligations.ChangeoverRunsItsCourse : Prop :=
  ∀ s : State, s.engine.resetAsserted = false →
    (∀ (m : MagId) (source : Option MagId) (r : MagRec), s.mags.change = .pending m source → s.mags.get m = some r →
      let clear := s.expo.calls = [] ∧ s.expo.trailing = none ∧ s.web.queue.length < 192
        ∧ ∀ g, s.web.queue.getLast? = some g → 0 ≤ g.lead - (g.length : Int)
      (clear →
        let u := State.feedCutTest s.fresh
        exec .feedCut s = .next u.ended
        ∧ u.web = { s.web with
            nextSid := s.web.nextSid + 1
            queue := s.web.queue ++ [⟨s.web.nextSid, .paperEnd, none, 0, 0, r.width, 0, none, false, 0⟩] }
        ∧ u.mags.change = .threading m source ∧ u.mags.selector = none ∧ u.mags.sizes = s.mags.sizes
        ∧ (∀ k q, source = some k → s.mags.get k = some q → q.state = .active →
            u.mags.get k = some { q with state := .loaded })
        ∧ u.lines.strobes = s.lines.strobes ++ [.feedCut]
        ∧ (m = .a → u.lines.threadA = true) ∧ (m = .b → u.lines.threadB = true)
        ∧ u.expo = s.expo ∧ u.cutter = s.cutter ∧ u.sorter = s.sorter ∧ u.engine = s.engine
        ∧ u.stop.causes = s.stop.causes)
      ∧ (¬ clear → exec .feedCut s = .next { s with due := Due.none })
      ∧ exec .paperAtHead s = .next { s with due := Due.none }
      ∧ exec .threadingTimerExpired s = .next { s with due := Due.none })
    ∧ (∀ (m : MagId) (source : Option MagId) (r : MagRec), s.mags.change = .threading m source →
      s.mags.get m = some r →
      (exec .paperAtHead s = .next (State.ended (State.headSensed s.fresh))
        ∧ (State.headSensed s.fresh).mags =
            { s.mags.put m (some { r with state := .active }) with selector := some m, change := .idle }
        ∧ (m = .a → (State.headSensed s.fresh).lines.threadA = false)
        ∧ (m = .b → (State.headSensed s.fresh).lines.threadB = false)
        ∧ (State.headSensed s.fresh).Raised s (.changeoverDone m r.width r.remaining)
        ∧ (State.headSensed s.fresh).web = s.web ∧ (State.headSensed s.fresh).expo = s.expo
        ∧ (State.headSensed s.fresh).cutter = s.cutter ∧ (State.headSensed s.fresh).sorter = s.sorter
        ∧ (State.headSensed s.fresh).engine = s.engine)
      ∧ (let u := State.threadingExpired s.fresh
        exec .threadingTimerExpired s = .next u.ended ∧ s.CauseTaken u .magazine
        ∧ u.mags = { s.mags with change := .idle } ∧ (m = .a → u.lines.threadA = false)
        ∧ (m = .b → u.lines.threadB = false) ∧ u.cutter = s.cutter
        ∧ ((∀ c ∈ s.expo.calls, c.state ≠ .exposing) → u.web.queue = s.web.queue ∧ u.sorter = s.sorter))
      ∧ exec .feedCut s = .next { s with due := Due.none })
    ∧ (s.mags.change = .idle → exec .feedCut s = .next { s with due := Due.none }
      ∧ exec .paperAtHead s = .next { s with due := Due.none }
      ∧ exec .threadingTimerExpired s = .next { s with due := Due.none })

/-- A sensed mark is placed at distance 0, unmatched, when no check is open, and is ignored unless the transport runs;
a mark that finds an open check closes it (R106, R108). -/
def Obligations.SensedMarkIsRemembered : Prop :=
  ∀ s : State, s.engine.resetAsserted = false →
    (s.web.transport ≠ .running → exec .markSensed s = .next { s with due := Due.none })
    ∧ (s.web.transport = .running → s.cutter.check = none →
      exec .markSensed s = .next { s with cutter := { s.cutter with mark := some ⟨0, false⟩ }, due := Due.none })
    ∧ (∀ (g : Segment) (rest : List Segment) (k : Check), s.web.transport = .running → s.web.queue = g :: rest →
      s.cutter.check = some k → k.sid = g.sid →
      exec .markSensed s = .next (State.ended (State.closeCheck State.serveBlade true
        { s.fresh with cutter := { s.cutter with mark := some ⟨0, false⟩ } } g)))

/-- The mark check of the oldest segment closes in RUN or PAUSED, the segment behind it short of the blade: a found
mark lowers the fault count and the cut is made at it, a missed one raises the count by 8, voids a live print in
MARKED mode and is cut at the trail; the segment goes to the Sorter's transit list with the status it then has, and
the others stay (R108 to R112). A live item goes to the tray for a bulk order, else to the first bin of the chain with
room, else to its last bin, and the units routed of its destination rise (R128, R129). The mode notices of the move
are queued (R113). A miss that would bring the count above 255 sets it to 255 and halts the engine with CUTTER (R112).
A cut that finds 8 items in transit is a sorter jam (R130); with another print at the blade behind it nothing more is
handed on, and that print is presented with its check open, which is how the model reads R134, R96 and R108 together
(log entry 23). In RECOVERY the recovery record moves instead of the count, and the attempt succeeds, fails or goes on
(R117, R116, R118). A halt voids the exposing segment alone (R164). That the names of the segments differ is part of
WebInvariant. -/
def Obligations.MarkCheckCloses : Prop :=
  (∀ (s : State) (g : Segment) (rest : List Segment) (k : Copy) (found : Bool), s.web.queue = g :: rest →
    (∀ x ∈ rest, x.sid ≠ g.sid) → s.ShortOfBlade rest → g.copy = some k → g.presented = true →
    (g.kind = .print ∨ g.kind = .index) → (s.engine.state = .run ∨ s.engine.state = .paused) →
    (found = true → s.cutter.mark ≠ none) →
    let blind := decide (127 < s.cutter.count)
    let void := if blind = false ∧ found = false ∧ g.void = none then some VoidCause.cutterMiss else g.void
    let u := s.closeCheck State.serveBlade found g
    let cut := s.lines.strobes ++ [s.bladeMove g (found = true ∧ blind = false)]
    let new := if found then s.cutter.count - 1 else min (s.cutter.count + 8) 255
    let modes := countNotices s.cutter.count new s.cutter.warningLimit
    SameButVoids u.web.queue rest ∧ ((∀ c ∈ s.expo.calls, c.state ≠ .exposing) → u.web.queue = rest)
    ∧ u.cutter.check = none ∧ u.cutter.count = new
    ∧ u.cutter.mark = (if found then s.cutter.mark.map fun m => { m with matched := true } else s.cutter.mark)
    ∧ u.cutter.recovery = s.cutter.recovery ∧ u.lines.strobes = cut
    ∧ (s.sorter.transit.length < 8 → (found = true ∨ s.cutter.count ≤ 247) →
      (∃ it : Item, u.sorter.transit = s.sorter.transit ++ [it] ∧ it.copy = k ∧ it.void = void
          ∧ it.kind = (if g.kind = .index then .index else .print)
          ∧ u.lines.destination = dropCode it.dest ∧ (void ≠ none → it.dest = .reject)
          ∧ ∀ o, s.order k.slot = some o → void = none →
            let full := fun x : ChainEntry => s.sorter.binCapacity <
              s.sorter.bins[x.bin].used + s.sorter.bins[x.bin].routed + it.units
            (∀ l z, o.line k.line = some l → s.lookupSize l.product = some z → it.units = z.units)
            ∧ (o.bulk = true → it.dest = .tray)
            ∧ (o.bulk = false → ∀ before x after, o.bins = before ++ x :: after → (∀ y ∈ before, full y) → ¬ full x →
                it.dest = .bin x.bin)
            ∧ (o.bulk = false → (∀ y ∈ o.bins, full y) → ∀ x, o.bins.getLast? = some x → it.dest = .bin x.bin)
            ∧ (∀ p, dropPlace it.dest = some p →
                u.place p = { s.place p with routed := min ((s.place p).routed + it.units) 65535 })
            ∧ u.orders = s.orders)
      ∧ (s.sorter.transit = [] → u.sorter.timer = some 3000 ∧ u.lines.sortDrive = true)
      ∧ u.web = { s.web with queue := rest }
      ∧ u.engine = s.engine ∧ u.mags = s.mags ∧ u.expo = s.expo ∧ u.stop.causes = s.stop.causes
      ∧ (∀ i, i ≠ k.slot → u.order i = s.order i)
      ∧ (s.link.notices.length ≤ 28 → ∃ more, u.link.notices = s.link.notices ++ more ++ modes
          ∧ (void = g.void → more = [])))
    ∧ (s.sorter.transit.length < 8 → found = false → 247 < s.cutter.count → s.stop.causes = [] →
      u.engine = { s.engine with state := .halted } ∧ u.stop.causes = [.cutter] ∧ u.stop.ret = some s.engine.state
      ∧ u.web.transport = .stopped ∧ u.Queued (.halted .cutter [.cutter] s.engine.state none))
    ∧ (8 ≤ s.sorter.transit.length → (found = true ∨ s.cutter.count ≤ 247) → s.stop.causes = [] →
      u.sorter.transit = [] ∧ u.sorter.timer = none ∧ u.lines.sortDrive = false
      ∧ u.engine = { s.engine with state := .halted } ∧ u.stop.causes = [.jam] ∧ u.stop.ret = some s.engine.state
      ∧ u.web.transport = .stopped
      ∧ u.Queued (.halted .jam [.jam] s.engine.state (some (.sorter,
          (s.sorter.transit.filter fun it => it.void.isNone).length + if void = none then 1 else 0)))))
  ∧ (∀ (s : State) (g y : Segment) (rest : List Segment) (k : Copy) (found : Bool), s.web.queue = g :: y :: rest →
    g.copy = some k → g.presented = true → (g.kind = .print ∨ g.kind = .index) →
    (s.engine.state = .run ∨ s.engine.state = .paused) → 8 ≤ s.sorter.transit.length →
    (y.kind = .print ∨ y.kind = .index) → y.presented = false →
    (s.web.stations.cut : Int) ≤ y.lead - (y.length : Int) →
    let u := s.closeCheck State.serveBlade found g
    u.engine = { s.engine with state := .halted } ∧ u.sorter.transit = [] ∧ u.sorter.timer = none
    ∧ u.lines.sortDrive = false ∧ u.cutter.check = some ⟨y.sid, s.cutter.markWindow⟩
    ∧ SameButVoids u.web.queue ({ y with presented := true } :: rest))
  ∧ ∀ (s : State) (g : Segment) (rest : List Segment) (found : Bool), s.web.queue = g :: rest →
    (∀ x ∈ rest, x.sid ≠ g.sid) → s.ShortOfBlade rest → g.presented = true →
    ((g.kind = .markStrip ∧ g.copy = none)
      ∨ ((g.kind = .print ∨ g.kind = .index) ∧ g.copy ≠ none ∧ s.sorter.transit.length < 8)) →
    s.engine.state = .recovery → s.stop.causes = [] → (found = true → s.cutter.mark ≠ none) →
    let u := s.closeCheck State.serveBlade found g
    let r := s.cutter.recovery
    let left := if found then r.remaining - 1 else r.runLength
    SameButVoids u.web.queue rest ∧ u.cutter.check = none
    ∧ ((∀ c ∈ s.expo.calls, c.state ≠ .exposing) ∨ left = 0 ∨ r.checked + 1 < 1024 →
        u.web.queue = rest ∧ (g.kind = .markStrip → u.sorter = s.sorter ∧ u.orders = s.orders))
    ∧ u.lines.strobes = s.lines.strobes ++ [s.bladeMove g (found = true ∧ (g.kind = .markStrip ∨ s.cutter.count ≤ 127))]
    ∧ (left ≠ 0 → r.checked + 1 < 1024 → u.engine = s.engine ∧ u.stop.causes = [] ∧ u.cutter.count = s.cutter.count
        ∧ u.cutter.recovery = { r with checked := r.checked + 1, remaining := left })
    ∧ (left = 0 → r.ret = .run ∨ r.ret = .paused →
        u.engine = { s.engine with state := r.ret } ∧ u.cutter.count = 0
        ∧ u.cutter.recovery = { r with checked := r.checked + 1, remaining := 0, kind := .none }
        ∧ u.Queued (.recoveryDone 0 r.ret) ∧ u.stop.causes = []
        ∧ (s.engine.webUnknown = false → u.web.purge = s.web.purge)
        ∧ (s.engine.webUnknown = true → ∀ y, s.web.queue.getLast? = some y → u.web.purge =
            some ⟨if 0 ≤ y.lead - (y.length : Int) then s.web.stations.cut + 2000
              else s.web.stations.cut + 2000 - (y.lead - y.length), 0⟩))
    ∧ (left ≠ 0 → 1024 ≤ r.checked + 1 →
        u.engine = { s.engine with state := .halted } ∧ u.cutter.count = 255
        ∧ u.cutter.recovery = { r with checked := r.checked + 1, remaining := left, kind := .none }
        ∧ u.Queued (.recoveryFailed 255 (r.checked + 1))
        ∧ u.stop.causes = [.cutter] ∧ u.stop.ret = some r.ret ∧ u.web.transport = .stopped)

/-- In RECOVERY a mark strip of 40 units enters where the web has room, the active roll holds it, no changeover is
under way and fewer than 1,024 have entered; where no active roll holds it, a changeover to the roll of A, else of B,
is asked for, however many have entered (R116). The row does nothing in another engine state. The end of a purge
clears the purge and the web-unknown flag once its distance is covered and the queue is empty (R102). That either row
changes nothing where it is not due is the model's choice (log entry 3). -/
def Obligations.StripsAndPurgeEnd : Prop :=
  ∀ s : State, s.engine.resetAsserted = false →
    (∀ (m : MagId) (r : MagRec), s.engine.state = .recovery →
      s.mags.selector = some m → s.mags.get m = some r → r.state = .active → 40 ≤ r.remaining →
      s.mags.change = .idle →
      let room := s.web.queue.length < 192 ∧ ∀ g, s.web.queue.getLast? = some g → 0 ≤ g.lead - (g.length : Int)
      (s.cutter.recovery.entered < 1024 → room →
        exec .markStripEntry s = .next (State.ended (State.transportTest { s.fresh with
          web := { s.web with
            nextSid := s.web.nextSid + 1
            queue := s.web.queue ++ [⟨s.web.nextSid, .markStrip, none, 0, 40, r.width, 0, none, false, 0⟩] }
          cutter := { s.cutter with
            recovery := { s.cutter.recovery with entered := s.cutter.recovery.entered + 1 } } })))
      ∧ (1024 ≤ s.cutter.recovery.entered ∨ ¬ room → exec .markStripEntry s = .next { s with due := Due.none }))
    ∧ (s.engine.state = .recovery → s.mags.change = .idle →
      (∀ (m : MagId) (r : MagRec), s.mags.selector = some m → s.mags.get m = some r → r.state = .active →
        r.remaining < 40) →
      let standby := fun (m : MagId) (r : MagRec) => s.mags.selector ≠ some m ∧ s.mags.get m = some r ∧ r.state = .loaded
      (∀ m r, standby m r → (m = .b → ∀ q, ¬ standby .a q) →
        let u := s.fresh.requestChangeover r.width
        exec .markStripEntry s = .next u.ended ∧ u.mags = { s.mags with change := .pending m s.mags.selector }
          ∧ u.web = s.web ∧ u.cutter = s.cutter ∧ u.engine = s.engine)
      ∧ ((∀ m r, ¬ standby m r) → exec .markStripEntry s = .next { s with due := Due.none }))
    ∧ (s.engine.state ≠ .recovery → exec .markStripEntry s = .next { s with due := Due.none })
    ∧ (∀ p, s.web.purge = some p → p.target ≤ (p.moved : Int) → s.web.queue = [] →
      exec .purgeEnd s = .next (State.ended (State.transportTest (State.prompt { s.fresh with
        web := { s.web with purge := none }, engine := { s.engine with webUnknown := false } }))))
    ∧ (s.web.purge = none ∨ s.web.queue ≠ [] ∨ (∃ p, s.web.purge = some p ∧ (p.moved : Int) < p.target) →
      exec .purgeEnd s = .next { s with due := Due.none })

/-! ## Sorter -/

/-- A drop takes the oldest item off the transit list and lowers the units routed of its destination; at its
destination a live item is delivered and its units are counted there, a void one counts its units alone, and the
reject chute counts it; the sort timer restarts, or stops with the drive released on an empty list (R132, R131, R23,
R27). The delivery of the last copy completes the order: priced, its notice queued, its places READY, or FREE where
they read empty (R10, R138, R139). A drop at another point is a misroute: a live item is voided as one, a FREE place
struck becomes STALE and any other keeps its state, its units are counted where it fell, and the item's order and the
owner of the place struck are disturbed (R133). With the last item in flight a collected READY order is freed with
ORDER COLLECTED and a CANCELLED one with ORDER CANCELLED, CANCELLING ends, and any other order stays (R15, R14, R19,
R11). -/
def Obligations.DropsAndMisroutes : Prop :=
  (∀ (s : State) (it : Item) (ts : List Item), s.engine.resetAsserted = false → s.sorter.transit = it :: ts →
    let u := State.drop s.fresh it.dest
    let landed := fun p : Container => if dropPlace it.dest = some p then { s.place p with
        routed := (s.place p).routed - it.units, used := min ((s.place p).used + it.units) 65535 } else s.place p
    exec (.dropEvent it.dest) s = .next u.ended
    ∧ u.sorter.transit = ts ∧ u.sorter.timer = (if ts = [] then none else some 3000)
    ∧ u.lines.sortDrive = (if ts = [] then false else s.lines.sortDrive)
    ∧ u.sorter.reject = (if it.dest = .reject then min (s.sorter.reject + 1) 65535 else s.sorter.reject)
    ∧ (∀ i, i ≠ it.copy.slot → u.order i = s.order i)
    ∧ (∀ (o : Order) (l : Line), s.order it.copy.slot = some o → o.state = .printing → o.line it.copy.line = some l →
        0 < l.onWeb → it.dest ≠ .reject → it.void = none →
        let ls := o.lines.set (it.copy.line - 1) { l with onWeb := l.onWeb - 1, delivered := l.delivered + 1 }
        ((∃ m ∈ ls, m.delivered + m.cancelled ≠ m.qty) →
          u.order it.copy.slot = some { o with lines := ls, inFlight := o.inFlight - 1 } ∧ ∀ p, u.place p = landed p)
        ∧ ((∀ m ∈ ls, m.delivered + m.cancelled = m.qty) →
          let f := s.pricing.compute { o with lines := ls } Line.delivered
          let fault := f.ov || f.unpriced
          let short := ls.any Line.short
          let good := fault = false ∧ short = false
          let gone := good ∧ s.keptBins it.copy.slot o = [] ∧ s.keepsTray it.copy.slot o = false ∧ o.inFlight ≤ 1
          (∀ p, u.place p = if (s.place p).ownedBy it.copy.slot = true then (landed p).madeReady else landed p)
          ∧ (good → u.Queued (.orderReady o.number it.copy.slot f.total o.disturbed))
          ∧ (¬ good → u.Queued (.orderAttention o.number it.copy.slot f.total o.disturbed fault short))
          ∧ (gone → s.Freed u it.copy.slot o ∧ u.Queued (.orderCollected o.number))
          ∧ (¬ gone → ∃ o', u.order it.copy.slot = some o' ∧ o'.SameIdentity o ∧ o'.lines = ls
              ∧ o'.inFlight = o.inFlight - 1 ∧ o'.held = false ∧ o'.disturbed = o.disturbed
              ∧ o'.bins = s.keptBins it.copy.slot o ∧ o'.trayHeld = s.keepsTray it.copy.slot o
              ∧ o'.priceFault = fault ∧ o'.shortReason = short
              ∧ (good → o'.state = .ready) ∧ (¬ good → o'.state = .attention))))
    ∧ (∀ (o : Order), s.order it.copy.slot = some o → (it.dest = .reject ∨ it.void ≠ none) →
        (2 ≤ o.inFlight → u.order it.copy.slot = some { o with inFlight := o.inFlight - 1 } ∧ ∀ p, u.place p = landed p)
        ∧ (o.inFlight ≤ 1 → s.LastLeft u it.copy.slot o landed))
    ∧ u.web = s.web ∧ u.expo = s.expo ∧ u.mags = s.mags ∧ u.cutter = s.cutter ∧ u.engine = s.engine
    ∧ u.stop.causes = s.stop.causes)
  ∧ (∀ (s : State) (it : Item) (ts : List Item) (struck : DropPoint), s.engine.resetAsserted = false →
    s.sorter.transit = it :: ts → struck ≠ it.dest →
    let u := State.drop s.fresh struck
    let owns := fun (p : Container) (i : Slot) => (s.place p).ownedBy i = true ∧ dropPlace struck = some p
    let left := fun p : Container =>
      if dropPlace it.dest = some p then { s.place p with routed := (s.place p).routed - it.units } else s.place p
    let hit := fun (p : Container) (b : Bin) => if dropPlace struck = some p then { b with
        used := min (b.used + it.units) 65535, state := if b.state = .free then .stale else b.state } else b
    let fell := fun p => hit p (left p)
    exec (.dropEvent struck) s = .next u.ended
    ∧ u.sorter.transit = ts ∧ u.sorter.timer = (if ts = [] then none else some 3000)
    ∧ u.lines.sortDrive = (if ts = [] then false else s.lines.sortDrive)
    ∧ u.sorter.reject = (if struck = .reject then min (s.sorter.reject + 1) 65535 else s.sorter.reject)
    ∧ (∀ p i o, owns p i → i ≠ it.copy.slot → s.order i = some o → u.order i = some { o with disturbed := true })
    ∧ (∀ i, i ≠ it.copy.slot → (∀ p, ¬ owns p i) → u.order i = s.order i)
    ∧ (∀ (o : Order), s.order it.copy.slot = some o → it.void ≠ none →
        (2 ≤ o.inFlight → u.order it.copy.slot = some { o with disturbed := true, inFlight := o.inFlight - 1 }
          ∧ ∀ p, u.place p = fell p)
        ∧ (o.inFlight ≤ 1 → s.LastLeft u it.copy.slot { o with disturbed := true } fell))
    ∧ (∀ (o : Order) (l : Line), s.order it.copy.slot = some o → o.state = .printing → o.line it.copy.line = some l →
        0 < l.onWeb → it.void = none → l.Adds ∨ 2 ≤ o.inFlight →
        let l' := if l.remakesUsed < s.orders.remakeLimit then
            { l with queued := l.queued + 1, owed := l.owed + 1, onWeb := l.onWeb - 1, remakesUsed := l.remakesUsed + 1 }
          else { l with onWeb := l.onWeb - 1, cancelled := l.cancelled + 1, short := true }
        ∃ o', u.order it.copy.slot = some o' ∧ o'.SameIdentity o ∧ o'.disturbed = true
          ∧ o'.inFlight = o.inFlight - 1 ∧ o'.lines = o.lines.set (it.copy.line - 1) l'
          ∧ (o'.state = .printing ↔ ∃ m ∈ o'.lines, m.delivered + m.cancelled ≠ m.qty)
          ∧ (o'.state = .printing → o'.bins = o.bins ∧ o'.trayHeld = o.trayHeld ∧ ∀ p, u.place p = fell p)
          ∧ (l.Adds → o'.state ≠ .printing → o'.state = .attention
              ∧ o'.bins = s.keptBins it.copy.slot o ∧ o'.trayHeld = s.keepsTray it.copy.slot o
              ∧ (∃ total fault, u.Queued (.orderAttention o.number it.copy.slot total o.disturbed fault true))
              ∧ ∀ p, u.place p =
                hit p (if (s.place p).ownedBy it.copy.slot = true then (left p).madeReady else left p)))
    ∧ u.web = s.web ∧ u.expo = s.expo ∧ u.mags = s.mags ∧ u.cutter = s.cutter ∧ u.engine = s.engine
    ∧ u.stop.causes = s.stop.causes)

/-- A drop event taken while the transit list is empty changes nothing (R134). -/
def Obligations.DropWithNothingInTransit : Prop :=
  ∀ (s : State) (point : DropPoint), s.sorter.transit = [] → s.due = Due.none →
    exec (.dropEvent point) s = .next s

/-- A place that reads empty: an OWNED one is cleared and its owner disturbed, a READY or STALE one goes FREE, a FREE
one takes the level alone; a place that reads occupied becomes STALE when it was FREE and keeps its state else (R136,
R137, R140). That a report which repeats the level has its effect again, so that an OWNED place which reads empty
already disturbs its owner once more, is read from R136 and R137 (log entry 25). -/
def Obligations.PresenceSensors : Prop :=
  ∀ (s : State) (p : Container), s.engine.resetAsserted = false →
    let b := s.place p
    let emptied := { b with occupied := false }
    (b.state = .free → exec (.presenceEmpty p) s = .next { s.putPlace p emptied with due := Due.none })
    ∧ (∀ (slot : Slot) (o : Order), b.state = .owned → b.owner = some slot → s.order slot = some o →
      let u := State.emptied p s.fresh
      exec (.presenceEmpty p) s = .next u.ended ∧ u.place p = { emptied with used := 0 }
      ∧ u.order slot = some { o with disturbed := true } ∧ u.Raised s (.binDisturbed p o.number slot)
      ∧ (∀ i, i ≠ slot → u.order i = s.order i) ∧ (∀ q, q ≠ p → u.place q = s.place q)
      ∧ u.sorter.transit = s.sorter.transit ∧ u.web = s.web ∧ u.expo = s.expo ∧ u.sched = s.sched)
    ∧ (b.state = .stale → b.owner = none →
      exec (.presenceEmpty p) s = .next (State.ended (State.prompt (s.fresh.putPlace p
        { emptied with state := .free, owner := none, pos := none, used := 0 }))))
    ∧ (∀ (slot : Slot) (o : Order), b.state = .ready → b.owner = some slot → s.order slot = some o →
      let u := State.emptied p s.fresh
      let o' := o.placeFreed p
      exec (.presenceEmpty p) s = .next u.ended
      ∧ u.place p = { emptied with state := .free, owner := none, pos := none, used := 0 }
      ∧ (∀ q, q ≠ p → u.place q = s.place q) ∧ (∀ i, i ≠ slot → u.order i = s.order i)
      ∧ ((o.state = .ready ∨ o.state = .cancelled) → o'.bins = [] → o'.trayHeld = false → o.inFlight = 0 →
          u.order slot = none
          ∧ u.Raised s (if o.state = .ready then .orderCollected o.number else .orderCancelled o.number))
      ∧ (¬ ((o.state = .ready ∨ o.state = .cancelled) ∧ o'.bins = [] ∧ o'.trayHeld = false ∧ o.inFlight = 0) →
          u.order slot = some o' ∧ u.link.notices = s.link.notices)
      ∧ u.sorter.transit = s.sorter.transit ∧ u.web = s.web ∧ u.expo = s.expo ∧ u.sched = s.sched)
    ∧ (b.state = .free → exec (.presenceOccupied p) s = .next { s.putPlace p
        { b with occupied := true, state := .stale, used := 0 } with due := Due.none })
    ∧ (b.state ≠ .free →
      exec (.presenceOccupied p) s = .next { s.putPlace p { b with occupied := true } with due := Due.none })

/-- The sort timer jams the sorter: every item is removed, each live one is voided as a jam void and its copy owed
again, the in-flight counts and the units routed fall by what was removed, the drive is released, and JAM halts the
engine from RUN, PAUSED and RECOVERY with that state to return to, or joins the causes in HALTED; in SETUP the voids
stand and no cause is taken (R130, R131, R24, R163, R165). The soak timer voids every live print and index segment in
the processor section as a soak void, their copies are owed again, SOAK EXPIRED carries their number, and the timer is
off (R169, R99, R24). With no timer running nothing happens, which is the model's choice (log entry 3). The counts are
stated where every line adds up (CountsInvariant) and counts the voided copies as on the web. -/
def Obligations.SortAndSoakTimersExpire : Prop :=
  (∀ s : State, s.engine.resetAsserted = false →
    (s.sorter.timer = none → exec .sortTimerExpired s = .next { s with due := Due.none })
    ∧ (s.sorter.timer ≠ none →
      let u := s.fresh.sorterJam none
      let live := s.sorter.transit.filter fun it => it.void.isNone
      let copies := live.map Item.copy
      let gone := fun slot : Slot => (s.sorter.transit.filter fun it => it.copy.slot == slot).length
      let working := s.engine.state = .run ∨ s.engine.state = .paused ∨ s.engine.state = .recovery
      exec .sortTimerExpired s = .next u.ended
      ∧ u.sorter.transit = [] ∧ u.sorter.timer = none ∧ u.lines.sortDrive = false ∧ u.sorter.reject = s.sorter.reject
      ∧ u.cutter = s.cutter ∧ u.mags.sizes = s.mags.sizes ∧ u.orders.seq = s.orders.seq
      ∧ (∀ p : Container, (u.place p).routed = (s.place p).routed
          - ((s.sorter.transit.filter fun it => dropPlace it.dest == some p).map Item.units).sum)
      ∧ (s.CountsInv → s.Counted copies → (∀ c ∈ s.expo.calls, c.state ≠ .exposing) → ∀ slot o,
          s.order slot = some o →
          (o.state = .printing → u.order slot = some { o.owing slot copies with inFlight := o.inFlight - gone slot })
          ∧ (o.state = .printing → o.owedTotal = 0 → (∃ c ∈ copies, c.slot = slot) →
              slot ∈ u.sched.remake)
          ∧ (o.state ≠ .printing → gone slot < o.inFlight ∨ gone slot = 0 →
              u.order slot = some { o with inFlight := o.inFlight - gone slot }))
      ∧ (s.engine.state = .setup → u.engine = s.engine ∧ u.stop.causes = s.stop.causes ∧ u.web = s.web
          ∧ u.expo = s.expo ∧ u.mags = s.mags)
      ∧ (s.engine.state = .halted → u.engine = s.engine ∧ u.web = s.web ∧ u.expo = s.expo ∧ u.mags = s.mags
          ∧ u.stop.ret = s.stop.ret
          ∧ u.stop.causes = if HaltCause.jam ∈ s.stop.causes then s.stop.causes else s.stop.causes ++ [.jam])
      ∧ (working → s.stop.causes = [] →
          u.engine = { s.engine with state := .halted } ∧ u.stop.causes = [.jam]
          ∧ u.stop.ret = some s.engine.state ∧ u.web.transport = .stopped
          ∧ u.web.queue.map Segment.sid = s.web.queue.map Segment.sid
          ∧ (u.link.notices.getLast? = some (.halted .jam [.jam] s.engine.state (some (.sorter, live.length)))
            ∨ u.link.lost = true))))
  ∧ ∀ s : State, s.engine.resetAsserted = false →
    (s.stop.soak = none → exec .soakTimerExpired s = .next { s with due := Due.none })
    ∧ (s.stop.soak ≠ none →
      let u := State.soakExpired s.fresh
      let hit := fun g : Segment => g.void.isNone && (g.kind == .print || g.kind == .index) && g.copy.isSome
        && decide ((s.web.stations.pIn : Int) ≤ g.lead ∧ g.lead - (g.length : Int) ≤ s.web.stations.pOut)
      let copies := (s.web.queue.filter hit).filterMap Segment.copy
      exec .soakTimerExpired s = .next u.ended
      ∧ u.web = { s.web with queue := s.web.queue.map fun g => if hit g then { g with void := some .soakVoid } else g }
      ∧ u.stop.soak = none ∧ u.stop.causes = s.stop.causes ∧ u.engine = s.engine ∧ u.expo = s.expo
      ∧ u.mags = s.mags ∧ u.cutter = s.cutter
      ∧ (s.CountsInv → s.Counted copies →
        u.Raised s (.soakExpired (s.web.queue.filter hit).length s.stop.causes) ∧ u.sorter = s.sorter
        ∧ u.pricing = s.pricing ∧ ∀ slot o, s.order slot = some o →
          u.order slot = some (if o.state = .printing then o.owing slot copies else o)))

/-! ## Stop Control -/

/-- A jam sensor that asserts voids its window as jam voids and raises JAM when the jam latch is clear, with a HALTED
notice that carries the sensor and the number voided (R163, R165); with the latch set its level alone is taken, and in
SETUP the latch too; the latch re-arms when all three are clear (R166, R167). That a level which repeats is no new
assertion or clearing is read from those rules (log entry 25). -/
def Obligations.JamSensorsAndTheLatch : Prop :=
  ∀ (s : State) (j : JamSensor), s.engine.resetAsserted = false →
    let levels := s.stop.setLevel j true
    (s.stop.level j = false → s.stop.latch = true →
      exec (.jamSensorAsserted j) s = .next { s with stop := levels, due := Due.none })
    ∧ (s.stop.level j = false → s.stop.latch = false → s.engine.state = .setup →
      exec (.jamSensorAsserted j) s = .next { s with stop := { levels with latch := true }, due := Due.none })
    ∧ (s.stop.level j = false → s.stop.latch = false → s.engine.state ≠ .setup →
      let u := State.jamAsserted j s.fresh
      let lo : Int := match j with
        | .j1 => (s.web.stations.pOut : Int) - 3000
        | .j2 => (s.web.stations.dry : Int) - 3000
        | .j3 => (s.web.stations.cut : Int) - 5000
      let hi : Int := match j with
        | .j1 => (s.web.stations.pOut : Int) + 1000
        | .j2 => (s.web.stations.dry : Int) + 1000
        | .j3 => (s.web.stations.cut : Int) - 1000
      let hit := fun g : Segment => g.void.isNone && (g.kind == .print || g.kind == .index) && g.copy.isSome
        && decide (lo ≤ g.lead ∧ g.lead - (g.length : Int) ≤ hi)
      let told := fun (causes : List HaltCause) (ret : EngineState) => u.link.lost = true ∨ u.link.notices.getLast? =
        some (.halted .jam causes ret (some (jamSourceOf j, (s.web.queue.filter hit).length)))
      exec (.jamSensorAsserted j) s = .next u.ended
      ∧ u.stop.latch = true ∧ u.stop.level j = true ∧ HaltCause.jam ∈ u.stop.causes
      ∧ u.engine = { s.engine with state := .halted }
      ∧ (∀ g ∈ s.web.queue, hit g = true → { g with void := some .jamVoid } ∈ u.web.queue)
      ∧ (s.engine.state = .halted → u.web.queue = s.web.queue.map fun g =>
          if hit g then { g with void := some .jamVoid } else g)
      ∧ (s.engine.state = .halted → HaltCause.jam ∈ s.stop.causes → u.stop.causes = s.stop.causes)
      ∧ (s.engine.state = .halted → HaltCause.jam ∉ s.stop.causes → u.stop.causes = s.stop.causes ++ [.jam]
          ∧ u.stop.ret = s.stop.ret ∧ ∀ r, s.stop.ret = some r → told (s.stop.causes ++ [.jam]) r)
      ∧ (s.engine.state ≠ .halted → s.stop.causes = [] →
          u.stop.causes = [.jam] ∧ u.stop.ret = some s.engine.state ∧ u.web.transport = .stopped
          ∧ told [.jam] s.engine.state))
    ∧ (s.stop.level j = true → exec (.jamSensorAsserted j) s = .next { s with due := Due.none })
    ∧ (s.stop.level j = true →
      let c := s.stop.setLevel j false
      exec (.jamSensorClear j) s = .next { s with
        stop := if c.j1 || c.j2 || c.j3 then c else { c with latch := false }, due := Due.none })
    ∧ (s.stop.level j = false → exec (.jamSensorClear j) s = .next { s with due := Due.none })

/-! ## Figures -/

/-- GRADUATED and BLOCK pricing (R153): graduated, each count is charged at the price of the first tier whose ending
quantity reaches it, or of the last tier; block, the whole quantity at the price of the tier of q. -/
def Obligations.GrossOfALine : Prop :=
  ∀ (e : PriceEntry) (q : Nat), e.tiers ≠ [] → e.tiers.Pairwise (fun x y => x.ending < y.ending) →
    let price := fun k => ((e.tiers.find? fun t => decide (k ≤ t.ending)).getD (e.tiers.getLastD ⟨0, 0⟩)).price
    (e.mode = .graduated → e.gross q = ((List.range q).map fun i => price (i + 1)).sum)
    ∧ (e.mode = .block → e.gross q = q * price q)

/-- No figure of an order exceeds MAX_AMOUNT, a line's discount never exceeds its gross for a promotion in its ranges,
the tax is rounded by category, and the total with the credit applied makes up net and tax (R154 to R156). The discount
of each kind of promotion is the formula of R154. The units of an order are the sum, over its lines, of quantity times
the bin units of the product (R122). -/
def Obligations.FiguresStayInRange : Prop :=
  (∀ (d : Discount) (gross q : Nat),
    (∀ p, d = .percent p → p ≤ 10000) → (∀ n m, d = .bundle n m → 1 ≤ m ∧ m < n) → d.amount gross q ≤ gross)
  ∧ (∀ (p : Pricing) (credit : Nat) (ls : List LineFigures),
    let f := p.sumOrder credit ls
    f.gross ≤ 2147483647 ∧ f.discount ≤ 2147483647 ∧ f.net ≤ 2147483647 ∧ f.tax ≤ 2147483647
      ∧ f.total ≤ 2147483647 ∧ f.creditApplied ≤ credit
      ∧ f.total + f.creditApplied = min (f.net + f.tax) 2147483647
      ∧ (f.floored = true ↔ min (f.net + f.tax) 2147483647 < credit)
      ∧ (f.unpriced = true ↔ ∃ l ∈ ls, l.entry = none)
      ∧ (∀ c : Fin 4, f.catTax[c.val]? = some ((min ((ls.filter fun l => l.entry.any fun e => e.tax == c).map
          LineFigures.net).sum 2147483647 * p.tax[c] + 5000) / 10000))
      ∧ (f.ov = false → f.gross = (ls.map LineFigures.gross).sum ∧ f.discount = (ls.map LineFigures.discount).sum
          ∧ f.net = ((ls.filter fun l => l.entry.isSome).map LineFigures.net).sum))
  ∧ (∀ gross q a n m p : Nat,
    (Discount.percent p).amount gross q = (gross * p + 5000) / 10000
    ∧ (Discount.perPrint a).amount gross q = (if q * a ≤ gross then q * a else gross)
    ∧ (Discount.bundle n m).amount gross q = (if q = 0 then 0 else gross * (q / n * (n - m)) / q))
  ∧ ∀ (s : State) (ls : List Line) (us : List Nat),
    (∀ (i j : Fin 32) (x y : SizeEntry), s.mags.sizes[i] = some x → s.mags.sizes[j] = some y →
      x.product = y.product → i = j) →
    us.length = ls.length → (∀ (k : Nat) (l : Line) (u : Nat), ls[k]? = some l → us[k]? = some u →
      ∃ (i : Fin 32) (z : SizeEntry), s.mags.sizes[i] = some z ∧ z.product = l.product ∧ u = z.units) →
    s.orderUnits ls = (List.zipWith (fun (l : Line) (u : Nat) => l.qty * u) ls us).sum

/-- A line takes the entry of the common bank, else of its latched bank (R144), and the qualifying promotion with the
lowest index: one that is active, matches the code wherever a mask bit is 0, and has the customer class (R150). -/
def Obligations.LookupAndPromotionOfALine : Prop :=
  (∀ (p : Pricing) (latched : SwBank) (product : Nat) (e : PriceEntry),
    (∀ (b : BankIx) (i j : Fin 32) (x y : PriceEntry), p.book[b][i] = some x → p.book[b][j] = some y →
      x.product = y.product → i = j) →
    (∀ (i : Fin 32), p.book[(0 : BankIx)][i] = some e → e.product = product →
      p.lookup latched product = some e)
    ∧ (∀ (i : Fin 32), p.book[latched.succ][i] = some e → e.product = product → ¬ p.Has 0 product →
      p.lookup latched product = some e)
    ∧ (¬ p.Has 0 product → ¬ p.Has latched.succ product → p.lookup latched product = none))
  ∧ ∀ (p : Pricing) (product customer : Nat) (i : Fin 16), product ≤ 4095 →
    let suits := fun (x : Promotion) => x.active = true ∧ x.classes.getLsbD customer = true
      ∧ ∃ c : CodeMask, (c = x.first ∨ x.second = some c)
        ∧ ∀ k < 12, c.mask.getLsbD k = false → c.code.getLsbD k = product.testBit k
    p.promotionFor product customer = some i ↔
      (∃ x, p.promotions[i] = some x ∧ suits x) ∧ ∀ j < i, ∀ x, p.promotions[j] = some x → ¬ suits x

/-- Every entry of the factor table is the nearest whole number to 65536 times 10 to the power s/100, and the table
rises strictly (R67). Raised to the 100th power: the entry less a half lies below, and the entry with a half above. An
exposure time is the base time scaled by the factor of the clamped density sum, rounded with a half up, and held
within 20..5000; LIMITED is reported when the sum or the time was clamped (R66, R68). -/
def Obligations.FactorTableAndTimes : Prop :=
  ((∀ n : Nat, n ≤ 100 →
    (2 * factor ((n : Int) - 50) - 1) ^ 100 * 10 ^ 50 < 131072 ^ 100 * 10 ^ n
      ∧ 131072 ^ 100 * 10 ^ n < (2 * factor ((n : Int) - 50) + 1) ^ 100 * 10 ^ 50)
  ∧ (∀ n : Nat, n < 100 → factor ((n : Int) - 50) < factor ((n : Int) - 49))
  ∧ factorTable.length = 101 ∧ factor 0 = 65536)
  ∧ (∀ (base : Nat) (sum : Int),
    let f := factor (max (-50) (min 50 sum))
    let t := (base * f + 32768) / 65536
    (exposureTime base sum).1 = (if t < 20 then 20 else if 5000 < t then 5000 else t)
    ∧ ((exposureTime base sum).2 = true ↔ sum < -50 ∨ 50 < sum ∨ t < 20 ∨ 5000 < t))

/-- The slice rule chooses between higher work and standard work and moves the slice counter (R59). -/
def Obligations.SliceRule : Prop :=
  ∀ (limit slice : Nat) (h l : Choice),
    sliceRule limit slice none none = none
    ∧ sliceRule limit slice (some h) none = some (h, slice)
    ∧ sliceRule limit slice none (some l) = some (l, limit)
    ∧ (limit = 0 → sliceRule limit slice (some h) (some l) = some (h, slice))
    ∧ (0 < limit → 0 < slice → sliceRule limit slice (some h) (some l) = some (h, slice - 1))
    ∧ (0 < limit → slice = 0 → sliceRule limit slice (some h) (some l) = some (l, limit))

/-- The walks of a selection pass find the first open order, in list sequence, that has a copy to call: from the higher
work its first copy of the active width, or else the width of its first copy on standby (R51, R54); from the standard
list the first copy of the active width, and in a second walk the first pull width (R55). A walk moves nothing but the
bin-wait set: a WAITING order that cannot be served joins it, one that can leaves it (R56, R64, R65). A pull width
asks for a changeover, candidates are chosen between by the slice rule where the conditions of R57 hold, and outside
RUN, in a purge or with a changeover under way no pass is made (R52, R54 to R57, R61). A chosen copy of a WAITING order
has the order's bins granted first, the lowest FREE ones, or the tray (R58, R126); then the call is entered: the next
tag, PREPARING, the READY timer, the FRAME CALL, LIMITED where a clamp applied (R57, R71, R73). That the check of R63
is made first in a pass, before the walks, is the model's choice (log entry 26). -/
def Obligations.SelectionPassAndCall : Prop :=
  (∀ (s : State) (owed : Bool) (list : List Slot),
    let r := State.walk (State.higherLook owed) list s
    let passed := fun (i : Slot) => ∀ p, s.order i = some p → s.Open i p → s.NoneActive owed i p ∧ s.NoneStandby owed i p
    r.1.SameButWaits s
    ∧ (∀ before slot after o, list = before ++ slot :: after → s.order slot = some o → s.Open slot o →
        (∀ i ∈ before, passed i) →
        (∀ c, s.FirstCopy owed slot o c → r.2 = some (.copy c))
        ∧ (s.NoneActive owed slot o → ∀ w, s.FirstPull owed slot o w → r.2 = some (.pull w)))
    ∧ ((∀ i ∈ list, passed i) → r.2 = none
        ∧ ∀ i ∈ list, ∀ p, s.order i = some p → p.state = .waiting → p.held = false →
          (s.CanServe i p → i ∉ r.1.sched.binWait)
          ∧ (¬ s.CanServe i p → (¬ s.NoneActive false i p ∨ ¬ s.NoneStandby false i p) → i ∈ r.1.sched.binWait
            ∧ ∀ n, s.sorter.needs[i] = some n → i ∉ s.sched.binWait →
              r.1.Queued (.binWait p.number i p.cls n.bins n.bulk))))
  ∧ (∀ (s : State) (list : List Slot),
    let r := State.walk State.standardLook list s
    let q := State.walk State.pullLook list s
    r.1.SameButWaits s ∧ q.1.SameButWaits s
    ∧ (∀ before slot after o, list = before ++ slot :: after → s.order slot = some o → s.Open slot o →
        ((∀ i ∈ before, ∀ p, s.order i = some p → s.Open i p → s.NoneActive false i p) →
          ∀ c, s.FirstCopy false slot o c → r.2 = some (.copy c))
        ∧ ((∀ i ∈ before, ∀ p, s.order i = some p → s.Open i p → s.NoneStandby false i p) →
          ∀ w, s.FirstPull false slot o w → q.2 = some (.pull w)))
    ∧ ((∀ i ∈ list, ∀ p, s.order i = some p → s.Open i p → s.NoneActive false i p) → r.2 = none)
    ∧ ((∀ i ∈ list, ∀ p, s.order i = some p → s.Open i p → s.NoneStandby false i p) → q.2 = none))
  ∧ (∀ (s : State) (n : Nat),
    (s.engine.state ≠ .run ∨ s.web.purge ≠ none ∨ s.mags.change ≠ .idle → s.passes n = s)
    ∧ (let a := s.paperCheck
      let rm := State.walk (State.higherLook true) a.sched.remake a
      let ex := State.walk (State.higherLook false) rm.1.sched.express rm.1
      let h := if rm.2 = none then ex else rm
      let st := State.walk State.standardLook h.1.sched.standard h.1
      let pl := State.walk State.pullLook st.1.sched.standard st.1
      (∀ w, h.2 = some (.pull w) → s.pass = (h.1.requestChangeover w, false))
      ∧ (∀ c l, h.2 = some (.copy c) → st.2 = some (.copy l) → s.pass = st.1.choose (some c) (some l))
      ∧ (∀ c, h.2 = some (.copy c) → st.2 = none → s.pass = st.1.choose (some c) none)
      ∧ (∀ l, h.2 = none → st.2 = some (.copy l) → s.pass = st.1.choose none (some l))
      ∧ (∀ w, h.2 = none → st.2 = none → pl.2 = some (.pull w) → s.pass = (pl.1.requestChangeover w, false))
      ∧ (h.2 = none → st.2 = none → pl.2 = none → s.pass = (pl.1, false))))
  ∧ (∀ (s : State) (h l : Option Choice),
    let room := s.expo.calls.length < 2 ∧ s.web.queue.length + s.expo.calls.length < 192
    (¬ room ∨ (h = none ∧ l = none) → s.choose h l = (s, false))
    ∧ ∀ c k, room → sliceRule s.sched.standardSlice s.sched.slice h l = some (c, k) →
        s.choose h l = (State.handOver { s with sched := { s.sched with slice := k } } c, true))
  ∧ ∀ (s : State) (c : Choice) (m : MagId) (r : MagRec) (o : Order), s.mags.selector = some m → s.mags.get m = some r →
    r.state = .active → s.order c.copy.slot = some o → (o.state = .printing ∨ o.state = .waiting) →
    o.line c.copy.line = some c.line →
    let u := s.handOver c
    let times := exposureTimes r s.mags.drift c.line.corr
    let tag := if s.expo.lastTag < 65535 then s.expo.lastTag + 1 else 1
    let lines := if times.2 then o.lines.set (c.copy.line - 1) { c.line with limited := true } else o.lines
    let free := binNumbers.filter fun b : BinIx => s.sorter.bins[b].state == .free
    u.expo = { s.expo with
        lastTag := tag
        calls := s.expo.calls ++ [⟨tag, c.copy.slot, c.copy.line, c.line.kind, c.line.image, c.width, c.length, c.gap,
          times.1, .preparing, none, none, some s.expo.readyTimeout⟩]
        port := s.expo.port ++ [.frameCall tag c.line.image c.line.kind c.width c.length times.1] }
    ∧ (∀ i, i ≠ c.copy.slot → u.order i = s.order i)
    ∧ u.web = s.web ∧ u.mags = s.mags ∧ u.cutter = s.cutter ∧ u.pricing = s.pricing ∧ u.engine = s.engine
    ∧ u.stop.causes = s.stop.causes ∧ u.link = s.link
    ∧ (o.state = .printing → u.order c.copy.slot = some { o with lines := lines } ∧ u.sorter = s.sorter
        ∧ u.sched = s.sched)
    ∧ (o.state = .waiting → ∀ n, s.sorter.needs[c.copy.slot] = some n →
        u.sched = { s.sched with binWait := s.sched.binWait.filter (· != c.copy.slot) }
        ∧ (n.bulk = true →
          u.order c.copy.slot = some { o with lines := lines, state := .printing, trayHeld := true }
          ∧ u.sorter = { s.sorter with
              tray := { s.sorter.tray with state := .owned, owner := some c.copy.slot, pos := none, used := 0 } })
        ∧ (n.bulk = false →
          u.order c.copy.slot = some { o with
            lines := lines, state := .printing, bins := (free.take n.bins).mapIdx fun k b => ⟨b, k⟩ }
          ∧ u.sorter.tray = s.sorter.tray
          ∧ (∀ (k : Nat) (b : BinIx), (free.take n.bins)[k]? = some b → u.sorter.bins[b] = { s.sorter.bins[b] with
              state := .owned, owner := some c.copy.slot, pos := some k, used := 0 })
          ∧ ∀ b : BinIx, b ∉ free.take n.bins → u.sorter.bins[b] = s.sorter.bins[b]))
end

