-- ==== Sys2Proof/Laws/State.lean ====
section
/-! SUPPORT. One lemma per field per block update, all true by definition, so that no later proof unfolds a record
update of the state. -/

namespace Sys2Proof.Machine

@[simp] theorem State.setLink_link (s : State) (x : Link) : (s.setLink x).link = x := rfl
@[simp] theorem State.setLink_engine (s : State) (x : Link) : (s.setLink x).engine = s.engine := rfl
@[simp] theorem State.setLink_orders (s : State) (x : Link) : (s.setLink x).orders = s.orders := rfl
@[simp] theorem State.setLink_sched (s : State) (x : Link) : (s.setLink x).sched = s.sched := rfl
@[simp] theorem State.setLink_mags (s : State) (x : Link) : (s.setLink x).mags = s.mags := rfl
@[simp] theorem State.setLink_expo (s : State) (x : Link) : (s.setLink x).expo = s.expo := rfl
@[simp] theorem State.setLink_web (s : State) (x : Link) : (s.setLink x).web = s.web := rfl
@[simp] theorem State.setLink_cutter (s : State) (x : Link) : (s.setLink x).cutter = s.cutter := rfl
@[simp] theorem State.setLink_sorter (s : State) (x : Link) : (s.setLink x).sorter = s.sorter := rfl
@[simp] theorem State.setLink_pricing (s : State) (x : Link) : (s.setLink x).pricing = s.pricing := rfl
@[simp] theorem State.setLink_stop (s : State) (x : Link) : (s.setLink x).stop = s.stop := rfl
@[simp] theorem State.setLink_lines (s : State) (x : Link) : (s.setLink x).lines = s.lines := rfl
@[simp] theorem State.setLink_due (s : State) (x : Link) : (s.setLink x).due = s.due := rfl
@[simp] theorem State.setLink_free (s : State) (x : Link) : (s.setLink x).free = s.free := rfl
@[simp] theorem State.setLink_pending (s : State) (x : Link) : (s.setLink x).pending = s.pending := rfl
@[simp] theorem State.setEngine_link (s : State) (x : Engine) : (s.setEngine x).link = s.link := rfl
@[simp] theorem State.setEngine_engine (s : State) (x : Engine) : (s.setEngine x).engine = x := rfl
@[simp] theorem State.setEngine_orders (s : State) (x : Engine) : (s.setEngine x).orders = s.orders := rfl
@[simp] theorem State.setEngine_sched (s : State) (x : Engine) : (s.setEngine x).sched = s.sched := rfl
@[simp] theorem State.setEngine_mags (s : State) (x : Engine) : (s.setEngine x).mags = s.mags := rfl
@[simp] theorem State.setEngine_expo (s : State) (x : Engine) : (s.setEngine x).expo = s.expo := rfl
@[simp] theorem State.setEngine_web (s : State) (x : Engine) : (s.setEngine x).web = s.web := rfl
@[simp] theorem State.setEngine_cutter (s : State) (x : Engine) : (s.setEngine x).cutter = s.cutter := rfl
@[simp] theorem State.setEngine_sorter (s : State) (x : Engine) : (s.setEngine x).sorter = s.sorter := rfl
@[simp] theorem State.setEngine_pricing (s : State) (x : Engine) : (s.setEngine x).pricing = s.pricing := rfl
@[simp] theorem State.setEngine_stop (s : State) (x : Engine) : (s.setEngine x).stop = s.stop := rfl
@[simp] theorem State.setEngine_lines (s : State) (x : Engine) : (s.setEngine x).lines = s.lines := rfl
@[simp] theorem State.setEngine_due (s : State) (x : Engine) : (s.setEngine x).due = s.due := rfl
@[simp] theorem State.setEngine_free (s : State) (x : Engine) : (s.setEngine x).free = s.free := rfl
@[simp] theorem State.setEngine_pending (s : State) (x : Engine) : (s.setEngine x).pending = s.pending := rfl
@[simp] theorem State.setOrders_link (s : State) (x : OrderTable) : (s.setOrders x).link = s.link := rfl
@[simp] theorem State.setOrders_engine (s : State) (x : OrderTable) : (s.setOrders x).engine = s.engine := rfl
@[simp] theorem State.setOrders_orders (s : State) (x : OrderTable) : (s.setOrders x).orders = x := rfl
@[simp] theorem State.setOrders_sched (s : State) (x : OrderTable) : (s.setOrders x).sched = s.sched := rfl
@[simp] theorem State.setOrders_mags (s : State) (x : OrderTable) : (s.setOrders x).mags = s.mags := rfl
@[simp] theorem State.setOrders_expo (s : State) (x : OrderTable) : (s.setOrders x).expo = s.expo := rfl
@[simp] theorem State.setOrders_web (s : State) (x : OrderTable) : (s.setOrders x).web = s.web := rfl
@[simp] theorem State.setOrders_cutter (s : State) (x : OrderTable) : (s.setOrders x).cutter = s.cutter := rfl
@[simp] theorem State.setOrders_sorter (s : State) (x : OrderTable) : (s.setOrders x).sorter = s.sorter := rfl
@[simp] theorem State.setOrders_pricing (s : State) (x : OrderTable) : (s.setOrders x).pricing = s.pricing := rfl
@[simp] theorem State.setOrders_stop (s : State) (x : OrderTable) : (s.setOrders x).stop = s.stop := rfl
@[simp] theorem State.setOrders_lines (s : State) (x : OrderTable) : (s.setOrders x).lines = s.lines := rfl
@[simp] theorem State.setOrders_due (s : State) (x : OrderTable) : (s.setOrders x).due = s.due := rfl
@[simp] theorem State.setOrders_free (s : State) (x : OrderTable) : (s.setOrders x).free = s.free := rfl
@[simp] theorem State.setOrders_pending (s : State) (x : OrderTable) : (s.setOrders x).pending = s.pending := rfl
@[simp] theorem State.setSched_link (s : State) (x : Scheduler) : (s.setSched x).link = s.link := rfl
@[simp] theorem State.setSched_engine (s : State) (x : Scheduler) : (s.setSched x).engine = s.engine := rfl
@[simp] theorem State.setSched_orders (s : State) (x : Scheduler) : (s.setSched x).orders = s.orders := rfl
@[simp] theorem State.setSched_sched (s : State) (x : Scheduler) : (s.setSched x).sched = x := rfl
@[simp] theorem State.setSched_mags (s : State) (x : Scheduler) : (s.setSched x).mags = s.mags := rfl
@[simp] theorem State.setSched_expo (s : State) (x : Scheduler) : (s.setSched x).expo = s.expo := rfl
@[simp] theorem State.setSched_web (s : State) (x : Scheduler) : (s.setSched x).web = s.web := rfl
@[simp] theorem State.setSched_cutter (s : State) (x : Scheduler) : (s.setSched x).cutter = s.cutter := rfl
@[simp] theorem State.setSched_sorter (s : State) (x : Scheduler) : (s.setSched x).sorter = s.sorter := rfl
@[simp] theorem State.setSched_pricing (s : State) (x : Scheduler) : (s.setSched x).pricing = s.pricing := rfl
@[simp] theorem State.setSched_stop (s : State) (x : Scheduler) : (s.setSched x).stop = s.stop := rfl
@[simp] theorem State.setSched_lines (s : State) (x : Scheduler) : (s.setSched x).lines = s.lines := rfl
@[simp] theorem State.setSched_due (s : State) (x : Scheduler) : (s.setSched x).due = s.due := rfl
@[simp] theorem State.setSched_free (s : State) (x : Scheduler) : (s.setSched x).free = s.free := rfl
@[simp] theorem State.setSched_pending (s : State) (x : Scheduler) : (s.setSched x).pending = s.pending := rfl
@[simp] theorem State.setMags_link (s : State) (x : Magazines) : (s.setMags x).link = s.link := rfl
@[simp] theorem State.setMags_engine (s : State) (x : Magazines) : (s.setMags x).engine = s.engine := rfl
@[simp] theorem State.setMags_orders (s : State) (x : Magazines) : (s.setMags x).orders = s.orders := rfl
@[simp] theorem State.setMags_sched (s : State) (x : Magazines) : (s.setMags x).sched = s.sched := rfl
@[simp] theorem State.setMags_mags (s : State) (x : Magazines) : (s.setMags x).mags = x := rfl
@[simp] theorem State.setMags_expo (s : State) (x : Magazines) : (s.setMags x).expo = s.expo := rfl
@[simp] theorem State.setMags_web (s : State) (x : Magazines) : (s.setMags x).web = s.web := rfl
@[simp] theorem State.setMags_cutter (s : State) (x : Magazines) : (s.setMags x).cutter = s.cutter := rfl
@[simp] theorem State.setMags_sorter (s : State) (x : Magazines) : (s.setMags x).sorter = s.sorter := rfl
@[simp] theorem State.setMags_pricing (s : State) (x : Magazines) : (s.setMags x).pricing = s.pricing := rfl
@[simp] theorem State.setMags_stop (s : State) (x : Magazines) : (s.setMags x).stop = s.stop := rfl
@[simp] theorem State.setMags_lines (s : State) (x : Magazines) : (s.setMags x).lines = s.lines := rfl
@[simp] theorem State.setMags_due (s : State) (x : Magazines) : (s.setMags x).due = s.due := rfl
@[simp] theorem State.setMags_free (s : State) (x : Magazines) : (s.setMags x).free = s.free := rfl
@[simp] theorem State.setMags_pending (s : State) (x : Magazines) : (s.setMags x).pending = s.pending := rfl
@[simp] theorem State.setExpo_link (s : State) (x : Exposure) : (s.setExpo x).link = s.link := rfl
@[simp] theorem State.setExpo_engine (s : State) (x : Exposure) : (s.setExpo x).engine = s.engine := rfl
@[simp] theorem State.setExpo_orders (s : State) (x : Exposure) : (s.setExpo x).orders = s.orders := rfl
@[simp] theorem State.setExpo_sched (s : State) (x : Exposure) : (s.setExpo x).sched = s.sched := rfl
@[simp] theorem State.setExpo_mags (s : State) (x : Exposure) : (s.setExpo x).mags = s.mags := rfl
@[simp] theorem State.setExpo_expo (s : State) (x : Exposure) : (s.setExpo x).expo = x := rfl
@[simp] theorem State.setExpo_web (s : State) (x : Exposure) : (s.setExpo x).web = s.web := rfl
@[simp] theorem State.setExpo_cutter (s : State) (x : Exposure) : (s.setExpo x).cutter = s.cutter := rfl
@[simp] theorem State.setExpo_sorter (s : State) (x : Exposure) : (s.setExpo x).sorter = s.sorter := rfl
@[simp] theorem State.setExpo_pricing (s : State) (x : Exposure) : (s.setExpo x).pricing = s.pricing := rfl
@[simp] theorem State.setExpo_stop (s : State) (x : Exposure) : (s.setExpo x).stop = s.stop := rfl
@[simp] theorem State.setExpo_lines (s : State) (x : Exposure) : (s.setExpo x).lines = s.lines := rfl
@[simp] theorem State.setExpo_due (s : State) (x : Exposure) : (s.setExpo x).due = s.due := rfl
@[simp] theorem State.setExpo_free (s : State) (x : Exposure) : (s.setExpo x).free = s.free := rfl
@[simp] theorem State.setExpo_pending (s : State) (x : Exposure) : (s.setExpo x).pending = s.pending := rfl
@[simp] theorem State.setWeb_link (s : State) (x : Web) : (s.setWeb x).link = s.link := rfl
@[simp] theorem State.setWeb_engine (s : State) (x : Web) : (s.setWeb x).engine = s.engine := rfl
@[simp] theorem State.setWeb_orders (s : State) (x : Web) : (s.setWeb x).orders = s.orders := rfl
@[simp] theorem State.setWeb_sched (s : State) (x : Web) : (s.setWeb x).sched = s.sched := rfl
@[simp] theorem State.setWeb_mags (s : State) (x : Web) : (s.setWeb x).mags = s.mags := rfl
@[simp] theorem State.setWeb_expo (s : State) (x : Web) : (s.setWeb x).expo = s.expo := rfl
@[simp] theorem State.setWeb_web (s : State) (x : Web) : (s.setWeb x).web = x := rfl
@[simp] theorem State.setWeb_cutter (s : State) (x : Web) : (s.setWeb x).cutter = s.cutter := rfl
@[simp] theorem State.setWeb_sorter (s : State) (x : Web) : (s.setWeb x).sorter = s.sorter := rfl
@[simp] theorem State.setWeb_pricing (s : State) (x : Web) : (s.setWeb x).pricing = s.pricing := rfl
@[simp] theorem State.setWeb_stop (s : State) (x : Web) : (s.setWeb x).stop = s.stop := rfl
@[simp] theorem State.setWeb_lines (s : State) (x : Web) : (s.setWeb x).lines = s.lines := rfl
@[simp] theorem State.setWeb_due (s : State) (x : Web) : (s.setWeb x).due = s.due := rfl
@[simp] theorem State.setWeb_free (s : State) (x : Web) : (s.setWeb x).free = s.free := rfl
@[simp] theorem State.setWeb_pending (s : State) (x : Web) : (s.setWeb x).pending = s.pending := rfl
@[simp] theorem State.setCutter_link (s : State) (x : Cutter) : (s.setCutter x).link = s.link := rfl
@[simp] theorem State.setCutter_engine (s : State) (x : Cutter) : (s.setCutter x).engine = s.engine := rfl
@[simp] theorem State.setCutter_orders (s : State) (x : Cutter) : (s.setCutter x).orders = s.orders := rfl
@[simp] theorem State.setCutter_sched (s : State) (x : Cutter) : (s.setCutter x).sched = s.sched := rfl
@[simp] theorem State.setCutter_mags (s : State) (x : Cutter) : (s.setCutter x).mags = s.mags := rfl
@[simp] theorem State.setCutter_expo (s : State) (x : Cutter) : (s.setCutter x).expo = s.expo := rfl
@[simp] theorem State.setCutter_web (s : State) (x : Cutter) : (s.setCutter x).web = s.web := rfl
@[simp] theorem State.setCutter_cutter (s : State) (x : Cutter) : (s.setCutter x).cutter = x := rfl
@[simp] theorem State.setCutter_sorter (s : State) (x : Cutter) : (s.setCutter x).sorter = s.sorter := rfl
@[simp] theorem State.setCutter_pricing (s : State) (x : Cutter) : (s.setCutter x).pricing = s.pricing := rfl
@[simp] theorem State.setCutter_stop (s : State) (x : Cutter) : (s.setCutter x).stop = s.stop := rfl
@[simp] theorem State.setCutter_lines (s : State) (x : Cutter) : (s.setCutter x).lines = s.lines := rfl
@[simp] theorem State.setCutter_due (s : State) (x : Cutter) : (s.setCutter x).due = s.due := rfl
@[simp] theorem State.setCutter_free (s : State) (x : Cutter) : (s.setCutter x).free = s.free := rfl
@[simp] theorem State.setCutter_pending (s : State) (x : Cutter) : (s.setCutter x).pending = s.pending := rfl
@[simp] theorem State.setSorter_link (s : State) (x : Sorter) : (s.setSorter x).link = s.link := rfl
@[simp] theorem State.setSorter_engine (s : State) (x : Sorter) : (s.setSorter x).engine = s.engine := rfl
@[simp] theorem State.setSorter_orders (s : State) (x : Sorter) : (s.setSorter x).orders = s.orders := rfl
@[simp] theorem State.setSorter_sched (s : State) (x : Sorter) : (s.setSorter x).sched = s.sched := rfl
@[simp] theorem State.setSorter_mags (s : State) (x : Sorter) : (s.setSorter x).mags = s.mags := rfl
@[simp] theorem State.setSorter_expo (s : State) (x : Sorter) : (s.setSorter x).expo = s.expo := rfl
@[simp] theorem State.setSorter_web (s : State) (x : Sorter) : (s.setSorter x).web = s.web := rfl
@[simp] theorem State.setSorter_cutter (s : State) (x : Sorter) : (s.setSorter x).cutter = s.cutter := rfl
@[simp] theorem State.setSorter_sorter (s : State) (x : Sorter) : (s.setSorter x).sorter = x := rfl
@[simp] theorem State.setSorter_pricing (s : State) (x : Sorter) : (s.setSorter x).pricing = s.pricing := rfl
@[simp] theorem State.setSorter_stop (s : State) (x : Sorter) : (s.setSorter x).stop = s.stop := rfl
@[simp] theorem State.setSorter_lines (s : State) (x : Sorter) : (s.setSorter x).lines = s.lines := rfl
@[simp] theorem State.setSorter_due (s : State) (x : Sorter) : (s.setSorter x).due = s.due := rfl
@[simp] theorem State.setSorter_free (s : State) (x : Sorter) : (s.setSorter x).free = s.free := rfl
@[simp] theorem State.setSorter_pending (s : State) (x : Sorter) : (s.setSorter x).pending = s.pending := rfl
@[simp] theorem State.setPricing_link (s : State) (x : Pricing) : (s.setPricing x).link = s.link := rfl
@[simp] theorem State.setPricing_engine (s : State) (x : Pricing) : (s.setPricing x).engine = s.engine := rfl
@[simp] theorem State.setPricing_orders (s : State) (x : Pricing) : (s.setPricing x).orders = s.orders := rfl
@[simp] theorem State.setPricing_sched (s : State) (x : Pricing) : (s.setPricing x).sched = s.sched := rfl
@[simp] theorem State.setPricing_mags (s : State) (x : Pricing) : (s.setPricing x).mags = s.mags := rfl
@[simp] theorem State.setPricing_expo (s : State) (x : Pricing) : (s.setPricing x).expo = s.expo := rfl
@[simp] theorem State.setPricing_web (s : State) (x : Pricing) : (s.setPricing x).web = s.web := rfl
@[simp] theorem State.setPricing_cutter (s : State) (x : Pricing) : (s.setPricing x).cutter = s.cutter := rfl
@[simp] theorem State.setPricing_sorter (s : State) (x : Pricing) : (s.setPricing x).sorter = s.sorter := rfl
@[simp] theorem State.setPricing_pricing (s : State) (x : Pricing) : (s.setPricing x).pricing = x := rfl
@[simp] theorem State.setPricing_stop (s : State) (x : Pricing) : (s.setPricing x).stop = s.stop := rfl
@[simp] theorem State.setPricing_lines (s : State) (x : Pricing) : (s.setPricing x).lines = s.lines := rfl
@[simp] theorem State.setPricing_due (s : State) (x : Pricing) : (s.setPricing x).due = s.due := rfl
@[simp] theorem State.setPricing_free (s : State) (x : Pricing) : (s.setPricing x).free = s.free := rfl
@[simp] theorem State.setPricing_pending (s : State) (x : Pricing) : (s.setPricing x).pending = s.pending := rfl
@[simp] theorem State.setStop_link (s : State) (x : StopControl) : (s.setStop x).link = s.link := rfl
@[simp] theorem State.setStop_engine (s : State) (x : StopControl) : (s.setStop x).engine = s.engine := rfl
@[simp] theorem State.setStop_orders (s : State) (x : StopControl) : (s.setStop x).orders = s.orders := rfl
@[simp] theorem State.setStop_sched (s : State) (x : StopControl) : (s.setStop x).sched = s.sched := rfl
@[simp] theorem State.setStop_mags (s : State) (x : StopControl) : (s.setStop x).mags = s.mags := rfl
@[simp] theorem State.setStop_expo (s : State) (x : StopControl) : (s.setStop x).expo = s.expo := rfl
@[simp] theorem State.setStop_web (s : State) (x : StopControl) : (s.setStop x).web = s.web := rfl
@[simp] theorem State.setStop_cutter (s : State) (x : StopControl) : (s.setStop x).cutter = s.cutter := rfl
@[simp] theorem State.setStop_sorter (s : State) (x : StopControl) : (s.setStop x).sorter = s.sorter := rfl
@[simp] theorem State.setStop_pricing (s : State) (x : StopControl) : (s.setStop x).pricing = s.pricing := rfl
@[simp] theorem State.setStop_stop (s : State) (x : StopControl) : (s.setStop x).stop = x := rfl
@[simp] theorem State.setStop_lines (s : State) (x : StopControl) : (s.setStop x).lines = s.lines := rfl
@[simp] theorem State.setStop_due (s : State) (x : StopControl) : (s.setStop x).due = s.due := rfl
@[simp] theorem State.setStop_free (s : State) (x : StopControl) : (s.setStop x).free = s.free := rfl
@[simp] theorem State.setStop_pending (s : State) (x : StopControl) : (s.setStop x).pending = s.pending := rfl
@[simp] theorem State.setLines_link (s : State) (x : Lines) : (s.setLines x).link = s.link := rfl
@[simp] theorem State.setLines_engine (s : State) (x : Lines) : (s.setLines x).engine = s.engine := rfl
@[simp] theorem State.setLines_orders (s : State) (x : Lines) : (s.setLines x).orders = s.orders := rfl
@[simp] theorem State.setLines_sched (s : State) (x : Lines) : (s.setLines x).sched = s.sched := rfl
@[simp] theorem State.setLines_mags (s : State) (x : Lines) : (s.setLines x).mags = s.mags := rfl
@[simp] theorem State.setLines_expo (s : State) (x : Lines) : (s.setLines x).expo = s.expo := rfl
@[simp] theorem State.setLines_web (s : State) (x : Lines) : (s.setLines x).web = s.web := rfl
@[simp] theorem State.setLines_cutter (s : State) (x : Lines) : (s.setLines x).cutter = s.cutter := rfl
@[simp] theorem State.setLines_sorter (s : State) (x : Lines) : (s.setLines x).sorter = s.sorter := rfl
@[simp] theorem State.setLines_pricing (s : State) (x : Lines) : (s.setLines x).pricing = s.pricing := rfl
@[simp] theorem State.setLines_stop (s : State) (x : Lines) : (s.setLines x).stop = s.stop := rfl
@[simp] theorem State.setLines_lines (s : State) (x : Lines) : (s.setLines x).lines = x := rfl
@[simp] theorem State.setLines_due (s : State) (x : Lines) : (s.setLines x).due = s.due := rfl
@[simp] theorem State.setLines_free (s : State) (x : Lines) : (s.setLines x).free = s.free := rfl
@[simp] theorem State.setLines_pending (s : State) (x : Lines) : (s.setLines x).pending = s.pending := rfl
@[simp] theorem State.setDue_link (s : State) (x : Due) : (s.setDue x).link = s.link := rfl
@[simp] theorem State.setDue_engine (s : State) (x : Due) : (s.setDue x).engine = s.engine := rfl
@[simp] theorem State.setDue_orders (s : State) (x : Due) : (s.setDue x).orders = s.orders := rfl
@[simp] theorem State.setDue_sched (s : State) (x : Due) : (s.setDue x).sched = s.sched := rfl
@[simp] theorem State.setDue_mags (s : State) (x : Due) : (s.setDue x).mags = s.mags := rfl
@[simp] theorem State.setDue_expo (s : State) (x : Due) : (s.setDue x).expo = s.expo := rfl
@[simp] theorem State.setDue_web (s : State) (x : Due) : (s.setDue x).web = s.web := rfl
@[simp] theorem State.setDue_cutter (s : State) (x : Due) : (s.setDue x).cutter = s.cutter := rfl
@[simp] theorem State.setDue_sorter (s : State) (x : Due) : (s.setDue x).sorter = s.sorter := rfl
@[simp] theorem State.setDue_pricing (s : State) (x : Due) : (s.setDue x).pricing = s.pricing := rfl
@[simp] theorem State.setDue_stop (s : State) (x : Due) : (s.setDue x).stop = s.stop := rfl
@[simp] theorem State.setDue_lines (s : State) (x : Due) : (s.setDue x).lines = s.lines := rfl
@[simp] theorem State.setDue_due (s : State) (x : Due) : (s.setDue x).due = x := rfl
@[simp] theorem State.setDue_free (s : State) (x : Due) : (s.setDue x).free = s.free := rfl
@[simp] theorem State.setDue_pending (s : State) (x : Due) : (s.setDue x).pending = s.pending := rfl
@[simp] theorem State.setFree_link (s : State) (x : Nat) : (s.setFree x).link = s.link := rfl
@[simp] theorem State.setFree_engine (s : State) (x : Nat) : (s.setFree x).engine = s.engine := rfl
@[simp] theorem State.setFree_orders (s : State) (x : Nat) : (s.setFree x).orders = s.orders := rfl
@[simp] theorem State.setFree_sched (s : State) (x : Nat) : (s.setFree x).sched = s.sched := rfl
@[simp] theorem State.setFree_mags (s : State) (x : Nat) : (s.setFree x).mags = s.mags := rfl
@[simp] theorem State.setFree_expo (s : State) (x : Nat) : (s.setFree x).expo = s.expo := rfl
@[simp] theorem State.setFree_web (s : State) (x : Nat) : (s.setFree x).web = s.web := rfl
@[simp] theorem State.setFree_cutter (s : State) (x : Nat) : (s.setFree x).cutter = s.cutter := rfl
@[simp] theorem State.setFree_sorter (s : State) (x : Nat) : (s.setFree x).sorter = s.sorter := rfl
@[simp] theorem State.setFree_pricing (s : State) (x : Nat) : (s.setFree x).pricing = s.pricing := rfl
@[simp] theorem State.setFree_stop (s : State) (x : Nat) : (s.setFree x).stop = s.stop := rfl
@[simp] theorem State.setFree_lines (s : State) (x : Nat) : (s.setFree x).lines = s.lines := rfl
@[simp] theorem State.setFree_due (s : State) (x : Nat) : (s.setFree x).due = s.due := rfl
@[simp] theorem State.setFree_free (s : State) (x : Nat) : (s.setFree x).free = x := rfl
@[simp] theorem State.setFree_pending (s : State) (x : Nat) : (s.setFree x).pending = s.pending := rfl
@[simp] theorem State.setPending_link (s : State) (x : List Instr) : (s.setPending x).link = s.link := rfl
@[simp] theorem State.setPending_engine (s : State) (x : List Instr) : (s.setPending x).engine = s.engine := rfl
@[simp] theorem State.setPending_orders (s : State) (x : List Instr) : (s.setPending x).orders = s.orders := rfl
@[simp] theorem State.setPending_sched (s : State) (x : List Instr) : (s.setPending x).sched = s.sched := rfl
@[simp] theorem State.setPending_mags (s : State) (x : List Instr) : (s.setPending x).mags = s.mags := rfl
@[simp] theorem State.setPending_expo (s : State) (x : List Instr) : (s.setPending x).expo = s.expo := rfl
@[simp] theorem State.setPending_web (s : State) (x : List Instr) : (s.setPending x).web = s.web := rfl
@[simp] theorem State.setPending_cutter (s : State) (x : List Instr) : (s.setPending x).cutter = s.cutter := rfl
@[simp] theorem State.setPending_sorter (s : State) (x : List Instr) : (s.setPending x).sorter = s.sorter := rfl
@[simp] theorem State.setPending_pricing (s : State) (x : List Instr) : (s.setPending x).pricing = s.pricing := rfl
@[simp] theorem State.setPending_stop (s : State) (x : List Instr) : (s.setPending x).stop = s.stop := rfl
@[simp] theorem State.setPending_lines (s : State) (x : List Instr) : (s.setPending x).lines = s.lines := rfl
@[simp] theorem State.setPending_due (s : State) (x : List Instr) : (s.setPending x).due = s.due := rfl
@[simp] theorem State.setPending_free (s : State) (x : List Instr) : (s.setPending x).free = s.free := rfl
@[simp] theorem State.setPending_pending (s : State) (x : List Instr) : (s.setPending x).pending = x := rfl

end Sys2Proof.Machine
end

