-- ==== Sys2Proof/Laws/Blocks.lean ====
section
/-! SUPPORT. What the shared operations over the link, the order records, the bins, the magazines and the frame
receiver can do, said once: the lemmas to cite in place of unfolding them. -/

namespace Sys2Proof.Machine

open Sys2Proof

/-! ## Reply list and notice queue (R180, R181) -/

/-- A reply that finds room joins the list and marks the transmitter. -/
theorem queueReply_room {s : State} {r : Reply} (h : s.link.replies.length < 8) :
    s.queueReply r = { s with
      link := { s.link with replies := s.link.replies ++ [r] }, due := { s.due with link := true } } := by
  simp [State.queueReply, Config.replyCap, h, State.setLink, State.setDue]

/-- A reply that finds 8 waiting is lost. -/
theorem queueReply_full {s : State} {r : Reply} (h : 8 ≤ s.link.replies.length) : s.queueReply r = s := by
  simp [State.queueReply, Config.replyCap, Nat.not_lt.mpr h]

/-- A notice that finds room joins the queue and marks the transmitter. -/
theorem notify_room {s : State} {n : Notice} (h : s.link.notices.length < 32) :
    s.notify n = { s with
      link := { s.link with notices := s.link.notices ++ [n] }, due := { s.due with link := true } } := by
  simp [State.notify, Config.noticeCap, h, State.setLink, State.setDue]

/-- A notice that finds 32 waiting is dropped and counted. -/
theorem notify_full {s : State} {n : Notice} (h : 32 ≤ s.link.notices.length) :
    s.notify n = { s with link := { s.link with lost := true, dropped := min (s.link.dropped + 1) 65535 } } := by
  simp [State.notify, Config.noticeCap, Config.max16, Nat.not_lt.mpr h, State.setLink]

/-- A notice is raised whatever the queue holds: it stands in the queue, or its loss is marked. -/
theorem notify_raised (s : State) (n : Notice) : (s.notify n).Raised s n := by
  by_cases h : s.link.notices.length < 32
  · exact .inl (by rw [notify_room h]; simp)
  · exact .inr ⟨Nat.not_lt.mp h, by rw [notify_full (Nat.not_lt.mp h)]⟩

/-- A notice leaves every block but the link alone. -/
theorem notify_frame (s : State) (n : Notice) :
    (s.notify n).engine = s.engine ∧ (s.notify n).orders = s.orders ∧ (s.notify n).sched = s.sched
      ∧ (s.notify n).mags = s.mags ∧ (s.notify n).expo = s.expo ∧ (s.notify n).web = s.web
      ∧ (s.notify n).cutter = s.cutter ∧ (s.notify n).sorter = s.sorter ∧ (s.notify n).pricing = s.pricing
      ∧ (s.notify n).stop = s.stop ∧ (s.notify n).lines = s.lines ∧ (s.notify n).pending = s.pending
      ∧ (s.notify n).free = s.free := by
  unfold State.notify
  split <;> simp

/-! ## Order records -/

/-- The record written is the record read. -/
@[simp] theorem order_putOrder_same (s : State) (slot : Slot) (o : Option Order) :
    (s.putOrder slot o).order slot = o := by
  simp [State.order, State.putOrder, State.setOrders]

/-- A record written leaves every other slot alone. -/
theorem order_putOrder_other {s : State} {slot i : Slot} {o : Option Order} (h : i ≠ slot) :
    (s.putOrder slot o).order i = s.order i := by
  have : slot.val ≠ i.val := fun e => h (Fin.ext e.symm)
  simp [State.order, State.putOrder, State.setOrders, this]

/-- A rewritten record: the record, where the slot is occupied; every other slot as before. -/
theorem order_modifyOrder (s : State) (slot i : Slot) (f : Order → Order) :
    (s.modifyOrder slot f).order i = if i = slot then (s.order slot).map f else s.order i := by
  unfold State.modifyOrder
  cases h : s.order slot with
  | none =>
    by_cases e : i = slot
    · subst e; simp [h]
    · simp [e]
  | some o =>
    by_cases e : i = slot
    · subst e; simp
    · simp [e, order_putOrder_other e]

/-- The record that an order number names is the one found (R21). -/
theorem findOrder_of_names {s : State} {n : Nat} {slot : Slot} {o : Order} (h : s.Names n slot o) :
    s.findOrder n = some (slot, o) := by
  have hs : slot ∈ slots := by simp [slots]
  unfold State.findOrder
  cases hf : slots.findSome? fun i => (s.order i).bind fun o => if o.number = n then some (i, o) else none with
  | none =>
    rw [List.findSome?_eq_none_iff] at hf
    have := hf slot hs
    simp [h.occupied, h.number] at this
  | some r =>
    obtain ⟨i, -, hi⟩ := List.exists_of_findSome?_eq_some hf
    cases ho : s.order i with
    | none => simp [ho] at hi
    | some p =>
      simp only [ho, Option.bind_some] at hi
      split at hi
      · rename_i hn
        have := h.only i p ho hn
        subst this
        rw [h.occupied] at ho
        cases ho
        simpa using hi.symm
      · exact absurd hi (by simp)

/-- No record is found for a number that none carries (R21). -/
theorem findOrder_of_unknown {s : State} {n : Nat} (h : ¬ s.Known n) : s.findOrder n = none := by
  unfold State.findOrder
  rw [List.findSome?_eq_none_iff]
  intro i _
  cases ho : s.order i with
  | none => rfl
  | some o =>
    simp only [Option.bind_some, ite_eq_right_iff]
    intro e
    exact absurd ⟨i, o, ho, e⟩ h

/-! ## Bins, tray, magazines -/

/-- The place written is the place read. -/
@[simp] theorem place_putPlace_same (s : State) (p : Container) (x : Bin) : (s.putPlace p x).place p = x := by
  cases p <;> simp [State.place, State.putPlace, State.putBin, State.setSorter]

/-- A place written leaves every other place alone. -/
theorem place_putPlace_other {s : State} {p q : Container} {x : Bin} (h : q ≠ p) :
    (s.putPlace p x).place q = s.place q := by
  cases p with
  | tray =>
    cases q with
    | tray => exact absurd rfl h
    | bin b => rfl
  | bin a =>
    cases q with
    | tray => rfl
    | bin b =>
      have : a.val ≠ b.val := fun e => h (by rw [Fin.ext e])
      simp [State.place, State.putPlace, State.putBin, State.setSorter, this]

/-- The magazine written is the magazine read, and the other keeps its record. -/
theorem get_put (g : Magazines) (m k : MagId) (r : Option MagRec) :
    (g.put m r).get k = if k = m then r else g.get k := by
  cases m <;> cases k <;> rfl

/-- A width in mm reads back as the width (section 2.2). -/
theorem widthOfMm_mm (w : Width) : widthOfMm w.mm = some w := by cases w <;> decide

/-- A number that is no width's reads as none. -/
theorem widthOfMm_none {n : Nat} (h : ∀ w : Width, n ≠ w.mm) : widthOfMm n = none := by
  unfold widthOfMm
  rw [List.find?_eq_none]
  intro w _
  simpa using fun e => h w e.symm

/-! ## The frame receiver (R177) -/

/-- Bytes fed in two parts. -/
theorem rxFeed_append (rx : Option (List Byte)) (xs ys : List Byte) :
    rxFeed rx (xs ++ ys) =
      ((rxFeed (rxFeed rx xs).1 ys).1, (rxFeed rx xs).2 ++ (rxFeed (rxFeed rx xs).1 ys).2) := by
  induction xs generalizing rx with
  | nil => simp [rxFeed]
  | cons b bs ih => simp [rxFeed, ih]

/-- While it hunts, the receiver skips every byte that is no start byte. -/
theorem rxByte_hunting {b : Byte} (h : b ≠ 0xA5#8) : rxByte none b = (none, none) := by
  simp [rxByte, startByte, h]

end Sys2Proof.Machine
end

