-- ==== Sys2Proof/Laws/Request.lean ====
section
/-! SUPPORT. What the end of an event and the taking of a request do, said once: the lemmas to cite in place of
unfolding `settle`, `finish`, `take`, `answer` and `request`. -/

namespace Sys2Proof.Machine

open Sys2Proof

/-- No report of the event has called for a reaction. -/
def State.Quiet (u : State) : Prop :=
  u.due.pass = false ∧ u.due.head = false ∧ u.due.strip = false ∧ u.due.transport = false

theorem quiet_of_due_none {u : State} (h : u.due = Due.none) : u.Quiet := by
  simp [State.Quiet, h, Due.none]

/-- An event whose reports called for nothing has no reaction. -/
theorem settle_of_quiet {u : State} (h : u.Quiet) : u.settle = u := by
  obtain ⟨hp, hh, hs, ht⟩ := h
  simp [State.settle, State.reactHead, State.reactPass, State.reactCut, State.reactStrip, State.reactTransport,
    hp, hh, hs, ht]

/-- The transmitters at the end of an event that raised nothing for them. -/
theorem finish_of_none {u : State} (hl : u.due.link = false) (hp : u.due.port = false) :
    u.finish = { u with due := Due.none } := by
  simp [State.finish, State.startLink, State.startPort, State.setDue, hl, hp]

/-- The end of an event that raised something for the order link alone. -/
theorem finish_of_link {u : State} (hl : u.due.link = true) (hp : u.due.port = false) :
    u.finish = { u with
      link := { u.link with sending := nextSending u.link.sending u.link.replies u.link.notices }
      due := Due.none } := by
  cases u with
  | mk link engine orders sched mags expo web cutter sorter pricing stop lines due free pending =>
    cases link with
    | mk rx buffer replies notices lost dropped sending =>
      simp only at hl hp
      cases sending <;> cases replies <;> cases notices <;>
        simp [State.finish, State.startLink, State.startPort, State.setDue, State.setLink, nextSending, hl, hp]

/-- A request is taken exactly as `Offers` says. -/
theorem take_of_offers {s : State} {f : Frame} {rest : List Frame} {r : Request} (h : s.Offers f rest r) :
    s.take = some (f, s.taken rest) := by
  simp [State.take, h.buffer, h.open_, State.taken]

/-- The reply list has room for the reply of a request that may be taken. -/
theorem room_of_mayTake {s : State} (h : s.mayTake = true) : s.link.replies.length < 8 := by
  simp only [State.mayTake, Bool.and_eq_true, Config.replyCap] at h
  exact of_decide_eq_true h.2

/-- The RESET line is not asserted when a request may be taken. -/
theorem noReset_of_mayTake {s : State} (h : s.mayTake = true) : s.engine.resetAsserted = false := by
  simp only [State.mayTake, Bool.and_eq_true, Bool.not_eq_true'] at h
  exact h.1.1

/-- A reply placed behind an effect that called for no reaction and raised nothing for the raster port. -/
theorem repliesAfter_of_quiet {u : State} {r : Reply} (hq : u.Quiet) (hp : u.due.port = false)
    (hr : u.link.replies.length < 8) : u.repliesAfter r = u.answered u.link.buffer r := by
  rw [State.repliesAfter, settle_of_quiet hq]
  simp only [State.queueReply, Config.replyCap, hr, if_true]
  rw [finish_of_link (by simp [State.setDue]) (by simpa [State.setDue] using hp)]
  simp [State.answered, State.setLink, State.setDue, nextSending]

/-- A refused request: its frame is gone, its refusal is placed, and nothing else has changed (R179). -/
theorem answer_refused {s : State} {f : Frame} {rest : List Frame} {code : RefusalCode}
    (hr : s.link.replies.length < 8) :
    (s.taken rest).answer f (.refused code) = s.answered rest (refuses f code) := by
  have h := repliesAfter_of_quiet (u := s.taken rest) (r := refuses f code) (quiet_of_due_none rfl) rfl hr
  rw [State.repliesAfter, settle_of_quiet (quiet_of_due_none rfl)] at h
  exact h

/-- An accepted request: the end of its event after the effect (R178, R179). -/
theorem answer_accepted {s t : State} {f : Frame} {data : List Byte} :
    s.answer f (.accepted t data) = t.repliesAfter (accepts f data) := rfl

/-- A request that is due and whose owner refuses it. -/
theorem request_refused {s : State} {f : Frame} {rest : List Frame} {r : Request}
    {row : Request → Option (State → Verdict)} {handle : State → Verdict} {code : RefusalCode}
    (ho : s.Offers f rest r) (hrow : row r = some handle) (hv : handle (s.taken rest) = .refused code) :
    s.request row = s.answered rest (refuses f code) := by
  simp only [State.request, take_of_offers ho, ho.parses, Option.bind_some, hrow, hv]
  exact answer_refused (room_of_mayTake ho.open_)

/-- A request that is due and whose owner accepts it. -/
theorem request_accepted {s t : State} {f : Frame} {rest : List Frame} {r : Request}
    {row : Request → Option (State → Verdict)} {handle : State → Verdict} {data : List Byte}
    (ho : s.Offers f rest r) (hrow : row r = some handle) (hv : handle (s.taken rest) = .accepted t data) :
    s.request row = t.repliesAfter (accepts f data) := by
  simp only [State.request, take_of_offers ho, ho.parses, Option.bind_some, hrow, hv, answer_accepted]

/-- An accepted request whose effect called for no reaction: the effect, and the reply. -/
theorem request_quiet {s t : State} {f : Frame} {rest : List Frame} {r : Request}
    {row : Request → Option (State → Verdict)} {handle : State → Verdict} {data : List Byte}
    (ho : s.Offers f rest r) (hrow : row r = some handle) (hv : handle (s.taken rest) = .accepted t data)
    (hq : t.Quiet) (hp : t.due.port = false) (hl : t.link.replies = s.link.replies) (hb : t.link.buffer = rest) :
    s.request row = t.answered rest (accepts f data) := by
  rw [request_accepted ho hrow hv, repliesAfter_of_quiet hq hp (by rw [hl]; exact room_of_mayTake ho.open_), hb]

/-- A request for which no frame may be taken has no effect. -/
theorem request_of_closed {s : State} {row : Request → Option (State → Verdict)} (h : s.mayTake = false) :
    s.request row = s := by
  unfold State.request State.take
  cases s.link.buffer <;> simp [h]

/-- An event with the RESET line released: its own effect on the state without marks, then the end of the event. -/
theorem event_eq {s : State} {f : State → State} (h : s.engine.resetAsserted = false) :
    s.event f = (f s.fresh).ended := by
  simp [State.event, h, State.fresh, State.ended]

/-- An event while the RESET line is asserted is not taken (R188). -/
theorem event_of_reset {s : State} {f : State → State} (h : s.engine.resetAsserted = true) : s.event f = s := by
  simp [State.event, h]

/-- An event whose effect is quiet and raised nothing for the transmitters. -/
theorem ended_of_quiet {u : State} (hq : u.Quiet) (hl : u.due.link = false) (hp : u.due.port = false) :
    u.ended = { u with due := Due.none } := by
  rw [State.ended, settle_of_quiet hq, finish_of_none hl hp]

/-! ## The end of an event in SETUP, where no pass and no strip is made -/

/-- In SETUP an event that asked for no test of the head or of the transport has no reaction: a pass is made in RUN
alone (R46), a strip enters in RECOVERY alone (R116). -/
theorem settle_setup {u : State} (h : u.engine.state = .setup) (hh : u.due.head = false)
    (ht : u.due.transport = false) : u.settle = u := by
  have e1 : u.reactHead = u := by simp [State.reactHead, hh]
  have e2 : u.reactPass = u := by
    unfold State.reactPass
    split
    · simp [State.passes, State.passAllowed, h]
    · rfl
  have e3 : u.reactCut = u := by simp [State.reactCut, hh]
  have e4 : u.reactStrip = u := by
    unfold State.reactStrip
    split
    · simp [State.stripStep, h]
    · rfl
  have e5 : u.reactTransport = u := by simp [State.reactTransport, ht]
  simp [State.settle, e1, e2, e3, e4, e5]

/-- A reply placed in SETUP behind an effect that may have prompted a pass or a strip test. -/
theorem repliesAfter_setup {u : State} {r : Reply} (h : u.engine.state = .setup) (hh : u.due.head = false)
    (ht : u.due.transport = false) (hp : u.due.port = false) (hr : u.link.replies.length < 8) :
    u.repliesAfter r = u.answered u.link.buffer r := by
  rw [State.repliesAfter, settle_setup h hh ht]
  simp only [State.queueReply, Config.replyCap, hr, if_true]
  rw [finish_of_link (by simp [State.setDue]) (by simpa [State.setDue] using hp)]
  simp [State.answered, State.setLink, State.setDue, nextSending]

/-- A request accepted in SETUP: its effect, and the reply. -/
theorem request_setup {s t : State} {f : Frame} {rest : List Frame} {r : Request}
    {row : Request → Option (State → Verdict)} {handle : State → Verdict} {data : List Byte}
    (ho : s.Offers f rest r) (hrow : row r = some handle) (hv : handle (s.taken rest) = .accepted t data)
    (h : t.engine.state = .setup) (hh : t.due.head = false) (ht : t.due.transport = false)
    (hp : t.due.port = false) (hl : t.link.replies = s.link.replies) (hb : t.link.buffer = rest) :
    s.request row = t.answered rest (accepts f data) := by
  rw [request_accepted ho hrow hv, repliesAfter_setup h hh ht hp (by rw [hl]; exact room_of_mayTake ho.open_), hb]

end Sys2Proof.Machine
end

