-- ==== Sys2Proof/Tests/Slice0.lean ====
section
/-! SUPPORT. Tests of the model as named theorems: the checks of well-formedness, request bodies written out from
sections 10.8 and 10.9, figures of the spec's worked cases, and for each statement with hypotheses states and operands
that meet them. -/

namespace Sys2Proof.Tests

-- The kernel runs are long and many: one at a time.
set_option Elab.async false

open Sys2Proof Sys2Proof.Machine

/-! ## Helpers -/

/-- The state after a command; no command faults or is refused by the machine. -/
def after (c : Instr) (s : State) : State :=
  match exec c s with
  | .next t => t
  | .fault _ => s
  | .refused _ => s

/-- A frame with tag 7. -/
def ask (kind : Byte) (body : List Byte) : Frame := ⟨kind, 7, body⟩

/-- `s` with these frames waiting in the receive buffer. -/
def asked (s : State) (fs : List Frame) : State := { s with link := { s.link with buffer := fs } }

/-- The state after reset, in this engine state, with the web known. -/
def inState (e : EngineState) : State := { State.reset with engine := ⟨e, false, .powerOn, false⟩ }

/-- HALTED by these causes out of RUN. -/
def halted (cs : List HaltCause) : State :=
  { inState .halted with stop := { State.reset.stop with causes := cs, ret := some .run } }

/-- A line of product 5 with 3 copies. -/
def threeCopies : Line := ⟨.print, 5, 77, ⟨0, 0, 0⟩, 3, 3, 0, 0, 0, 0, 0, false, false, false, false⟩

/-- A standard order of that line with this state and number in flight. -/
def order1001 (st : OrderState) (inFlight : Nat) : Order :=
  ⟨1001, .standard, 2, 0, none, [threeCopies], st, false, false, false, false, false, [], false, inFlight, none, 1⟩

/-- `s` with a record in a slot, and the need record and latch count that go with it. -/
def holding (s : State) (slot : Slot) (o : Order) : State :=
  { s with
    orders := { s.orders with recs := s.orders.recs.set slot (some o), seq := 1 }
    sorter := { s.sorter with needs := s.sorter.needs.set slot (some ⟨1, false⟩) }
    pricing := { s.pricing with latch := s.pricing.latch.set o.bank 1 } }

/-- `s` with paper of 127 mm threaded from magazine A, this much of it. -/
def threaded (s : State) (remaining : Nat) : State :=
  { s with mags := { s.mags with
      magA := some ⟨.active, .w127, remaining, 50000, false, ⟨820, 640, 700⟩, ⟨-2, -3, 1⟩⟩, selector := some .a } }

/-- A print segment that stands for copy 1 of line 1 of slot 5. -/
def seg (sid : Nat) (lead : Int) (void : Option VoidCause) (presented : Bool) : Segment :=
  ⟨sid, .print, some ⟨5, 1⟩, lead, 1270, .w127, 20, void, presented, 9⟩

/-- A call for that line. -/
def call (tag : Nat) (st : CallState) (sid : Option Nat) (early : Option DoneStatus) : Call :=
  ⟨tag, 5, 1, .print, 77, .w127, 1270, 20, ⟨820, 640, 700⟩, st, early, sid, none⟩

/-- `s` with these calls and segments. -/
def withWork (s : State) (cs : List Call) (gs : List Segment) : State :=
  { s with expo := { s.expo with calls := cs }, web := { s.web with queue := gs, nextSid := 100 } }

theorem offers {s : State} {f : Frame} {rest : List Frame} {r : Request}
    (h : s.link.buffer = f :: rest ∧ s.mayTake = true ∧ parseRequest f = some r) : s.Offers f rest r :=
  ⟨h.1, h.2.1, h.2.2⟩

theorem names {s : State} {n : Nat} {slot : Slot} {o : Order}
    (h : s.order slot = some o ∧ o.number = n ∧
      slots.all (fun i => (s.order i).all fun p => p.number != n || i == slot) = true) : s.Names n slot o := by
  refine ⟨h.1, h.2.1, fun i p hi hp => ?_⟩
  have := List.all_eq_true.mp h.2.2 i (by simp [slots])
  simpa [hi, hp] using this

theorem unknown {s : State} {n : Nat}
    (h : slots.all (fun i => (s.order i).all fun p => p.number != n) = true) : ¬ s.Known n := by
  rintro ⟨i, o, hi, ho⟩
  have := List.all_eq_true.mp h i (by simp [slots])
  simp [hi, ho] at this

theorem orderAt {s : State} {P : Slot → Order → Prop} [∀ i o, Decidable (P i o)]
    (h : slots.all (fun i => (s.order i).all fun o => decide (P i o)) = true) :
    ∀ i o, s.order i = some o → P i o := by
  intro i o hi
  have := List.all_eq_true.mp h i (by simp [slots])
  simpa [hi] using this

theorem placesAll {P : Container → Prop} [∀ p, Decidable (P p)] (h : places.all (fun p => decide (P p)) = true) :
    ∀ p, P p := by
  intro p
  have := List.all_eq_true.mp h p (by cases p <;> simp [places, binNumbers])
  simpa using this

/-! ## Well-formedness refuses each kind of bad operand (R70, R71, R93) -/

theorem test_tag_below_range_is_ill_formed :
    (Instr.ready 0).wf = false ∧ (Instr.done 0 .good).wf = false ∧ (Instr.readyTimerExpired 0).wf = false
      ∧ (Instr.doneTimerExpired 0).wf = false := by decide

theorem test_tag_above_range_is_ill_formed :
    (Instr.ready 65536).wf = false ∧ (Instr.done 65536 .fault).wf = false
      ∧ (Instr.readyTimerExpired 65536).wf = false ∧ (Instr.doneTimerExpired 65536).wf = false := by decide

theorem test_encoder_distance_out_of_range_is_ill_formed :
    (Instr.encoderEvent 0).wf = false ∧ (Instr.encoderEvent 256).wf = false := by decide

theorem test_operands_at_the_ends_of_their_ranges_are_well_formed :
    (Instr.ready 1).wf ∧ (Instr.done 65535 .good).wf ∧ (Instr.encoderEvent 1).wf ∧ (Instr.encoderEvent 255).wf := by
  decide

theorem test_no_word_spells_a_command :
    decodeTableWord 8 0x2E = none ∧ State.reset.withFetchWord 8 0x2E = State.reset := ⟨rfl, rfl⟩

/-! ## Request bodies written out from sections 10.8 and 10.9 -/

/-- ADMIT ORDER: order 1001, EXPRESS, class 3, credit 500, index product 900, one line of product 210, image 77,
corrections +5, 0, -3, quantity 60. -/
def admitBytes : List Byte :=
  [0x03, 0xE9, 0, 3, 1, 0, 0, 0x01, 0xF4, 1, 0x03, 0x84, 1,
    0, 0xD2, 0, 0, 0, 77, 5, 0, 0xFD, 0, 60]

theorem test_parse_admit_order :
    parseRequest (ask 0x01 admitBytes) =
      some (.admitOrder ⟨1001, 0, 3, 1, 500, 1, 900, [⟨210, 77, ⟨5, 0, -3⟩, 60⟩]⟩) := by decide

theorem test_parse_order_requests :
    parseRequest (ask 0x02 [0x03, 0xE9]) = some (.cancelOrder 1001)
      ∧ parseRequest (ask 0x03 [0x03, 0xE9]) = some (.holdOrder 1001)
      ∧ parseRequest (ask 0x04 [0x03, 0xE9]) = some (.releaseOrder 1001)
      ∧ parseRequest (ask 0x05 [0x03, 0xE9]) = some (.acceptOrder 1001)
      ∧ parseRequest (ask 0x06 [0x03, 0xE9, 0x01, 0x02]) = some (.queryOrder 1001 258)
      ∧ parseRequest (ask 0x07 [0x03, 0xE9, 0, 4]) = some (.quoteOrder 1001 4)
      ∧ parseRequest (ask 0x08 [0x03, 0xE9]) = some (.repriceOrder 1001) := by decide

theorem test_parse_paper_requests :
    parseRequest (ask 0x10 [4, 1, 0, 0xD2, 1, 0, 127, 0x04, 0xF6, 0, 3]) =
        some (.setSize 4 (some ⟨210, 1, 127, 1270, 3⟩))
      ∧ parseRequest (ask 0x10 [31, 0, 0, 0, 0, 0, 0, 0, 0, 0, 0]) = some (.setSize 31 none)
      ∧ parseRequest (ask 0x11 [1, 0, 127, 0, 0x1B, 0x77, 0x40, 0, 0, 0, 0, 0, 0x03, 0x34, 0x02, 0x80, 0x02, 0xBC,
          0xFE, 0xFD, 1]) =
        some (.loadMagazine ⟨1, 127, 1800000, none, ⟨820, 640, 700⟩, ⟨-2, -3, 1⟩⟩)
      ∧ parseRequest (ask 0x12 [1]) = some (.unloadMagazine 1)
      ∧ parseRequest (ask 0x13 [50, 0xCE, 0]) = some (.setDrift ⟨50, -50, 0⟩) := by decide

theorem test_parse_limit_requests :
    parseRequest (ask 0x14 [1, 2, 0, 0, 0xEA, 0x60]) = some (.setStations [(2, 60000)])
      ∧ parseRequest (ask 0x15 [2, 1, 0, 0, 0, 6, 10, 0, 0, 0, 15]) = some (.setLimits [(1, 6), (10, 15)])
      ∧ parseRequest (ask 0x16 [255]) = some (.setFaultCount 255)
      ∧ parseRequest (ask 0x1D [5, 9, 1]) = some (.setPattern 5 9 true)
      ∧ parseRequest (ask 0x1E []) = some .silence := by decide

theorem test_parse_price_requests :
    parseRequest (ask 0x18 [0, 2, 0, 0xD2, 0, 2, 0, 24, 0, 0, 0, 45, 0x27, 0x0F, 0, 0, 0, 28, 1]) =
        some (.setPrice 0 2 ⟨210, 0, [⟨24, 45⟩, ⟨9999, 28⟩], 1⟩)
      ∧ parseRequest (ask 0x19 [3, 31]) = some (.clearPrice 3 31)
      ∧ parseRequest (ask 0x1A [1, 1, 1, 0, 0x01, 0x4A, 0, 0, 0, 0, 0, 0, 0, 0, 0xFF, 0xFF, 2, 0, 0, 0, 0, 0, 0, 0, 0,
          1, 6, 1, 5]) =
        some (.setPromotion 1 (some ⟨true, 0, 330, 0, 0, 0, 0xFFFF, 2, 0, 0, 6, 5⟩))
      ∧ parseRequest (ask 0x1B [1, 0x07, 0xD0]) = some (.setTax 1 2000)
      ∧ parseRequest (ask 0x1C [3]) = some (.selectBank 3) := by decide

theorem test_parse_engine_requests :
    parseRequest (ask 0x20 [0, 24]) = some (.queryBins 24)
      ∧ parseRequest (ask 0x21 [4, 16, 0, 3]) = some (.queryStatus 4 16 3)
      ∧ parseRequest (ask 0x28 []) = some .enterSetup ∧ parseRequest (ask 0x29 []) = some .enterRun
      ∧ parseRequest (ask 0x2A []) = some .pause ∧ parseRequest (ask 0x2B []) = some .continueRun
      ∧ parseRequest (ask 0x2C []) = some .resume ∧ parseRequest (ask 0x2D []) = some .cutterRestart
      ∧ parseRequest (ask 0x2E []) = some .restart := by decide

theorem test_a_body_of_the_wrong_length_is_malformed :
    parseRequest (ask 0x01 (admitBytes ++ [0])) = none ∧ parseRequest (ask 0x02 [0x03]) = none
      ∧ parseRequest (ask 0x2A [0]) = none ∧ parseRequest (ask 0x1D [5, 9, 2]) = none := by decide

/-- The CRC-16 with polynomial 0x1021 and initial value 0xFFFF of the nine digits "123456789" is 0x29B1. -/
theorem test_crc_of_the_digits :
    crc [0x31, 0x32, 0x33, 0x34, 0x35, 0x36, 0x37, 0x38, 0x39] = 0x29B1#16 := by decide +kernel

/-- A PAUSE request with tag 7 in its frame: the start byte, the length 2, the kind and tag, the check. -/
theorem test_pause_arrives_and_is_taken :
    (after (.requestFrame [0xA5, 0, 2, 0x2A, 7, 0x73, 0x6A]) State.reset).link.buffer = [⟨0x2A, 7, []⟩] := by
  decide +kernel

/-! ## Figures of the worked cases -/

/-- Section 8.9: the price book and promotions, with tax category 1 at 2000. -/
def book89 : Pricing :=
  { Pricing.powerOn with
    book := Pricing.powerOn.book.set 0 (Pricing.powerOn.book[0]
      |>.set 0 (some ⟨210, .graduated, [⟨24, 45⟩, ⟨99, 35⟩, ⟨9999, 28⟩], 1⟩)
      |>.set 1 (some ⟨330, .block, [⟨9, 120⟩, ⟨9999, 95⟩], 1⟩)
      |>.set 2 (some ⟨900, .block, [⟨1, 50⟩], 1⟩))
    promotions := Pricing.powerOn.promotions
      |>.set 0 (some ⟨true, ⟨208, 7⟩, none, 0xFFFF, .percent 1000⟩)
      |>.set 1 (some ⟨true, ⟨330, 0⟩, none, 0xFFFF, .bundle 6 5⟩)
    tax := #v[0, 2000, 0, 0] }

/-- Section 8.9: the order at completion, with 58 of line 1 delivered. -/
def order89 : Order :=
  ⟨1001, .standard, 3, 0, some 500,
    [⟨.print, 210, 1, ⟨0, 0, 0⟩, 60, 0, 0, 0, 58, 2, 3, true, false, false, false⟩,
      ⟨.print, 330, 2, ⟨0, 0, 0⟩, 12, 0, 0, 0, 12, 0, 0, false, false, false, false⟩,
      ⟨.index, 900, 1001, ⟨0, 0, 0⟩, 1, 0, 0, 0, 1, 0, 0, false, false, false, false⟩],
    .printing, false, false, false, false, false, [], false, 0, none, 1⟩

theorem test_quote_of_section_8_9 :
    let f := book89.compute order89 Line.qty
    f.net = 3106 ∧ f.tax = 621 ∧ f.total = 3227 ∧ f.ov = false ∧ f.floored = false ∧ f.unpriced = false := by
  decide +kernel

theorem test_commit_of_section_8_9 :
    let f := book89.compute order89 Line.delivered
    f.gross = 3460 ∧ f.discount = 417 ∧ f.net = 3043 ∧ f.tax = 609 ∧ f.creditApplied = 500 ∧ f.total = 3152 := by
  decide +kernel

theorem test_credit_above_the_amount_due_of_section_8_9 :
    let f := book89.compute { order89 with credit := some 4000 } Line.delivered
    f.creditApplied = 3652 ∧ f.total = 0 ∧ f.floored = true ∧ f.ov = false := by decide +kernel

/-- Section 8.10: three lines of 999 at 999,999 exceed the range; at 9,999 they do not. -/
theorem test_overflow_of_section_8_10 :
    let line : Line := ⟨.print, 777, 1, ⟨0, 0, 0⟩, 999, 0, 0, 0, 999, 0, 0, false, false, false, false⟩
    let o := { order89 with bank := 1, credit := none, lines := [line, line, line] }
    let book := fun price : Nat => { Pricing.powerOn with
      book := Pricing.powerOn.book.set 2 (Pricing.powerOn.book[2].set 0 (some ⟨777, .block, [⟨9999, price⟩], 0⟩)) }
    ((book 999999).compute o Line.delivered).total = 2147483647 ∧ ((book 999999).compute o Line.delivered).ov = true
      ∧ ((book 9999).compute o Line.delivered).total = 29967003
      ∧ ((book 9999).compute o Line.delivered).ov = false := by decide +kernel

/-- Section 4.9: base 820, 640, 700 with the sums of the worked cases give 899, 611 and 668. -/
theorem test_exposure_times_of_section_4_9 :
    exposureTimes ⟨.active, .w127, 1, 1, false, ⟨820, 640, 700⟩, ⟨-2, -3, 1⟩⟩ ⟨1, 1, 0⟩ ⟨5, 0, -3⟩ =
      (⟨899, 611, 668⟩, false)
      ∧ exposureTime 2000 50 = (5000, true) ∧ exposureTime 20 (-50) = (20, true)
      ∧ (exposureTime 1000 55).2 = true := by decide

/-- A live print at the blade with this fault count and mark memory (section 6.6 with WARNING_LIMIT 96). -/
def atBlade (count : Nat) (mark : Option Mark) : State :=
  let s := holding (inState .run) 5 { order1001 .printing 1 with lines := [{ threeCopies with queued := 2, onWeb := 1 }] }
  { withWork s [] [seg 0 69280 none true] with cutter := { s.cutter with count := count, mark := mark } }

theorem test_a_missed_mark_of_section_6_6 :
    let u := (atBlade 88 none).closeCheck State.serveBlade false (seg 0 69280 none true)
    u.cutter.count = 96 ∧ u.link.notices.getLast? = some (.cutterWarning 96 96)
      ∧ u.sorter.transit.map Item.dest = [.reject] := by decide +kernel

theorem test_a_missed_mark_at_the_edge_of_blind :
    let u := (atBlade 127 none).closeCheck State.serveBlade false (seg 0 69280 none true)
    u.cutter.count = 135 ∧ u.link.notices.getLast? = some (.cutterBlind 135 96)
      ∧ u.sorter.transit.map Item.dest = [.reject] := by decide +kernel

theorem test_a_found_mark_that_ends_blind :
    let u := (atBlade 128 (some ⟨0, false⟩)).closeCheck State.serveBlade true (seg 0 69280 none true)
    u.cutter.count = 127 ∧ u.link.notices.getLast? = some (.cutterMarked 127 96) := by decide +kernel

/-- Section 7.8: need 2 of a standard order with 6 FREE bins and a reserve of 4, then with 5. -/
theorem test_grants_of_section_7_8 :
    let bins := fun free : Nat => Vector.ofFn fun i : Fin 24 =>
      if i.val < 24 - free then (⟨.stale, none, none, 0, 0, true⟩ : Bin) else Bin.emptied
    let s := fun free need => { State.reset with sorter := { State.reset.sorter with
      bins := bins free, needs := State.reset.sorter.needs.set 5 (some ⟨need, false⟩) } }
    (s 6 2).grantTest 5 .standard = true ∧ (s 4 2).grantTest 5 .express = true ∧ (s 2 1).grantTest 5 .standard = false := by
  decide +kernel

/-- Section 9.6: three live segments when J3 asserts. -/
def before96 : State :=
  let o := { order1001 .printing 3 with cls := .express, lines := [{ threeCopies with queued := 0, onWeb := 3 }] }
  let s := withWork (holding (inState .run) 5 o) []
    [seg 80 65500 none false, seg 81 52600 none false, seg 82 20000 none false]
  { s with web := { s.web with transport := .running }, lines := { s.lines with transportDrive := true } }

theorem test_jam_at_the_cutter_of_section_9_6 :
    let t := after (.jamSensorAsserted .j3) before96
    t.web.queue.map Segment.void = [some .jamVoid, none, none] ∧ t.engine.state = .halted ∧ t.stop.soak = some 90
      ∧ t.link.notices.getLast? = some (.halted .jam [.jam] .run (some (.j3, 1)))
      ∧ (t.order 5).map (fun o => o.lines.map fun l => (l.queued, l.owed, l.onWeb)) = some [(1, 1, 2)]
      ∧ t.sched.remake = [5] ∧ t.lines.buzzer = true := by decide +kernel

theorem test_soak_expiry_of_section_9_6 :
    let t := after .soakTimerExpired (after (.jamSensorAsserted .j3) before96)
    (t.order 5).map (fun o => o.lines.map fun l => (l.queued, l.owed, l.onWeb)) = some [(3, 3, 0)]
      ∧ t.link.notices.getLast? = some (.soakExpired 2 [.jam]) ∧ t.stop.soak = none := by decide +kernel

/-- Section 5.10: the purge after ENTER SETUP from HALTED, with the youngest trail 670 units upstream. -/
theorem test_purge_distance_of_section_5_10 :
    let s := withWork State.reset [] [seg 47 62000 none false, seg 51 600 (some .haltVoid) false]
    s.web.purgeTarget = 70670 ∧ (withWork State.reset [] [seg 51 20600 none false]).web.purgeTarget = 70000 := by
  decide +kernel

/-- Section 7.9: bin 3 holds 40 units with 4 more on their way; the first item falls into bin 5. -/
def before79 : State :=
  let o := { order1001 .printing 2 with lines := [{ threeCopies with queued := 1, onWeb := 2 }], bins := [⟨2, 0⟩] }
  let s := holding (inState .run) 5 o
  { s with sorter := { s.sorter with
      transit := [⟨.print, ⟨5, 1⟩, none, 2, .bin 2⟩, ⟨.print, ⟨5, 1⟩, none, 2, .bin 2⟩]
      bins := s.sorter.bins.set 2 ⟨.owned, some 5, some 0, 40, 4, true⟩, timer := some 3000, reject := 112 } }

theorem test_misroute_of_section_7_9 :
    let t := after (.dropEvent (.bin 4)) before79
    ((t.place (.bin 2)).used, (t.place (.bin 2)).routed) = (40, 2) ∧ (t.place (.bin 4)).state = .stale
      ∧ (t.place (.bin 4)).used = 2 ∧ (t.order 5).map Order.disturbed = some true ∧ t.sorter.timer = some 3000
      ∧ (t.order 5).map (fun o => o.lines.map fun l => (l.queued, l.owed, l.onWeb, l.remakesUsed)) = some [(2, 1, 1, 1)] := by
  decide +kernel

theorem test_sorter_jam_of_section_7_9 :
    let t := after .sortTimerExpired (after (.dropEvent (.bin 4)) before79)
    t.sorter.transit = [] ∧ (t.place (.bin 2)).routed = 0 ∧ t.stop.causes = [.jam] ∧ t.sorter.reject = 112
      ∧ (t.order 5).map (fun o => o.lines.map fun l => (l.queued, l.owed, l.onWeb, l.remakesUsed)) = some [(3, 2, 0, 1)] := by
  decide +kernel

/-- Section 3.8: with a slice of 3, the fourth choice is the standard copy and reloads S. -/
theorem test_slice_of_section_3_8 (h l : Choice) :
    sliceRule 3 3 (some h) (some l) = some (h, 2) ∧ sliceRule 3 0 (some h) (some l) = some (l, 3)
      ∧ sliceRule 3 1 none (some l) = some (l, 3) := by
  simp [sliceRule]

/-! ## Witnesses: states and operands that meet the hypotheses of the statements

Each theorem is named after its statement, and shows, clause by clause and at the ends of their ranges, that the
hypotheses can be met together. -/

theorem optAll {α : Type} {o : Option α} {P : α → Prop} [DecidablePred P] (h : o.all (fun x => decide (P x)) = true) :
    ∀ x, o = some x → P x := by
  intro x hx
  simpa [hx] using h

theorem magsAll {s : State} {P : MagRec → Prop} [DecidablePred P]
    (h : [MagId.a, .b].all (fun m => (s.mags.get m).all fun r => decide (P r)) = true) :
    ∀ m r, s.mags.get m = some r → P r := by
  intro m r hr
  have := List.all_eq_true.mp h m (by cases m <;> simp)
  simpa [hr] using this

/-- An order being printed with a segment before the blade and a call exposing, in RUN. -/
def busy : State :=
  let o := { order1001 .printing 2 with lines := [{ threeCopies with queued := 1, onWeb := 2 }] }
  let s := threaded (holding (inState .run) 5 o) 100000
  let s := withWork s [call 9 .exposing (some 1) none] [seg 0 60000 none false, seg 1 700 none false]
  { s with
    expo := { s.expo with trailing := some 1, lastTag := 9 }
    web := { s.web with transport := .running }
    lines := { s.lines with transportDrive := true, exposeGate := true }
    pending := [.encoderEvent 255] }

theorem witness_step : State.reset.pending = [] ∧ busy.pending = [.encoderEvent 255] := ⟨rfl, rfl⟩

/-- Everything of the order link as full as it can be. -/
def brimLink : Link :=
  ⟨none, List.replicate 4 (ask 0x2A []), List.replicate 8 ⟨7, 0x2A, none, [2]⟩, List.replicate 32 (.orderCollected 1),
    true, 65535, .reply⟩

/-- Every bounded count at its bound. -/
def brim : State :=
  let l := { threeCopies with qty := 999, queued := 998, onWeb := 1, remakesUsed := 15 }
  let s := threaded (holding (inState .recovery) 5 { order1001 .printing 1 with lines := [l] }) 1800000
  let s := withWork s [call 9 .preparing none none, call 8 .ready none none] (List.replicate 192 (seg 0 0 none false))
  { s with
    link := brimLink
    orders := { s.orders with remakeLimit := 15, seq := 4294967295 }
    stop := { s.stop with phase := 15 }
    expo := { s.expo with miss := 3, lastTag := 65535 }
    sched := ⟨[], [], [], 15, 15, []⟩
    cutter := { s.cutter with
      count := 255, mark := some ⟨200000, true⟩, recovery := ⟨.full, 128, 128, 1023, 1024, .run, false⟩
      chop := 999 }
    web := { s.web with purge := some ⟨70000, 200000⟩ }
    sorter := { s.sorter with
      transit := List.replicate 8 ⟨.print, ⟨5, 1⟩, none, 3, .reject⟩, reject := 65535
      tray := { s.sorter.tray with used := 65535, routed := 65535 } } }

theorem witness_link_and_bounds : brim.LinkInv ∧ brim.BoundsInv ∧ busy.LinkInv ∧ busy.BoundsInv
    ∧ ∃ t, step busy = .next t := by
  refine ⟨?_, ?_, ?_, ?_, _, rfl⟩
  · refine ⟨by decide, by decide, by decide, by decide, ?_⟩; simp [Link.busyRight, brim, brimLink]
  · constructor <;> first
      | decide +kernel
      | exact optAll (by decide +kernel)
      | exact orderAt (P := fun _ o => ∀ l ∈ o.lines, l.remakesUsed ≤ 15 ∧ l.qty ≤ 999) (by decide +kernel)
      | exact placesAll (P := fun p => (brim.place p).used ≤ 65535 ∧ (brim.place p).routed ≤ 65535) (by decide +kernel)
      | exact magsAll (P := fun r => r.remaining ≤ 1800000) (by decide +kernel)
  · refine ⟨by decide, by decide, by decide, by decide, ?_⟩
    simp [Link.busyRight, busy, withWork, threaded, holding, inState, State.reset, Link.powerOn]
  · constructor <;> first
      | decide +kernel
      | exact optAll (by decide +kernel)
      | exact orderAt (P := fun _ o => ∀ l ∈ o.lines, l.remakesUsed ≤ 15 ∧ l.qty ≤ 999) (by decide +kernel)
      | exact placesAll (P := fun p => (busy.place p).used ≤ 65535 ∧ (busy.place p).routed ≤ 65535) (by decide +kernel)
      | exact magsAll (P := fun r => r.remaining ≤ 1800000) (by decide +kernel)

theorem witness_counts : busy.CountsInv ∧ ∃ o, busy.order 5 = some o ∧ o.lines ≠ [] :=
  ⟨orderAt (P := fun _ o => ∀ l ∈ o.lines, l.qty = l.queued + l.onWeb + l.delivered + l.cancelled ∧ l.owed ≤ l.queued)
    (by decide +kernel), _, rfl, by decide⟩

theorem witness_web : busy.WebInv ∧ busy.web.queue.length = 2 := by
  refine ⟨⟨?_, ?_⟩, by decide⟩ <;> decide +kernel

theorem witness_halt : busy.HaltInv ∧ (halted [.jam, .cutter]).HaltInv := by
  constructor <;> constructor <;>
    simp [busy, halted, withWork, threaded, holding, inState, State.reset, StopControl.powerOn, Cutter.powerOn,
      EngineState.returnable]

theorem witness_transport : busy.TransportInv ∧ (halted [.raster]).TransportInv := by
  refine ⟨⟨?_, ?_⟩, ?_, ?_⟩ <;> decide +kernel

/-- A READY bin 1, an OWNED tray and a STALE bin 2. -/
def binned : State :=
  let s := holding (inState .run) 5 { order1001 .ready 0 with bins := [⟨0, 0⟩] }
  { s with sorter := { s.sorter with
      bins := (s.sorter.bins.set 0 ⟨.ready, some 5, some 0, 9, 0, true⟩).set 1 ⟨.stale, none, none, 2, 0, true⟩
      tray := ⟨.owned, some 7, none, 3, 6, false⟩ } }

theorem witness_bins_and_latches : binned.BinInv ∧ busy.LatchInv ∧ busy.NeedInv := by
  refine ⟨fun _ => placesAll (P := fun p => ((binned.place p).owner.isSome = true ↔
      (binned.place p).state = .owned ∨ (binned.place p).state = .ready) ∧
      ((binned.place p).state = .free → (binned.place p).occupied = false)) (by decide +kernel), ?_, ?_⟩
  · intro k
    have : (List.finRange 3).all (fun k : Fin 3 => busy.pricing.latch[k] == busy.latched k) = true := by decide +kernel
    simpa using List.all_eq_true.mp this k (by simp)
  · intro i
    have : slots.all (fun i => (busy.sorter.needs[i]).isSome == (busy.order i).isSome) = true := by decide +kernel
    simpa using List.all_eq_true.mp this i (by simp [slots])

/-- A printing order with 4 bins, beside a READY one with bin 24 and the standard orders at the bound of the reserve. -/
def owned : State :=
  let chain : List ChainEntry := [⟨0, 0⟩, ⟨1, 1⟩, ⟨2, 2⟩, ⟨3, 3⟩]
  let s := holding (inState .run) 5 { order1001 .printing 1 with bins := chain }
  { s with sorter := { s.sorter with
      bins := Vector.ofFn fun b : Fin 24 =>
        if b.val < 4 then ⟨.owned, some 5, some b.val, 9, 3, true⟩ else ⟨.stale, none, none, 1, 0, true⟩
      expressReserve := 20 } }

theorem witness_owners : owned.OwnerInv ∧ owned.standardOwned = 4 := by
  refine ⟨⟨?_, ?_, ?_, ?_, ?_, ?_, ?_, ?_, ?_⟩, by decide +kernel⟩
  · exact orderAt (P := fun slot o => ∀ e ∈ o.bins, owned.sorter.bins[e.bin].ownedBy slot = true ∧
      owned.sorter.bins[e.bin].pos = some e.pos) (by decide +kernel)
  · exact orderAt (P := fun slot o => ∀ b : BinIx, owned.sorter.bins[b].ownedBy slot = true → ∃ e ∈ o.bins, e.bin = b)
      (by decide +kernel)
  · exact orderAt (P := fun _ o => (o.bins.map ChainEntry.bin).Nodup ∧ (o.bins.map ChainEntry.pos).Nodup)
      (by decide +kernel)
  · exact orderAt (P := fun _ o => o.bins.length ≤ 4 ∧ (o.trayHeld = true → o.bins = [])) (by decide +kernel)
  · intro slot
    exact optAll (P := fun n : Need => n.bulk = false → n.bins ≤ 4) (by revert slot; decide +kernel)
  · exact orderAt (P := fun slot o => owned.sorter.tray.ownedBy slot = true ↔ o.trayHeld = true) (by decide +kernel)
  · exact orderAt (P := fun _ o => o.state = .waiting → o.bins = [] ∧ o.trayHeld = false) (by decide +kernel)
  · exact fun slot h p => placesAll (P := fun p => ∀ slot : Slot, owned.order slot = none →
      (owned.place p).ownedBy slot = false) (by decide +kernel) p slot h
  · decide +kernel

/-- The RESET line asserted. -/
def inReset : State := { State.reset with engine := { State.reset.engine with resetAsserted := true } }

theorem witness_resets : inReset.engine.resetAsserted = true ∧ actsInReset .pause = false := ⟨rfl, rfl⟩

/-- A RESTART request waiting, and the acceptance of one being sent. -/
def restartAsked : State := asked busy [ask 0x2E [], ask 0x2A []]
def restartAnswered : State := { busy with link := { busy.link with replies := [⟨7, 0x2E, none, []⟩], sending := .reply } }

theorem witness_restart : restartAsked.Offers (ask 0x2E []) [ask 0x2A []] .restart ∧ isRequestRow .pause = true
    ∧ restartAnswered.engine.resetAsserted = false ∧ restartAnswered.link.sending = .reply
    ∧ restartAnswered.link.replies = [⟨7, 0x2E, none, []⟩] :=
  ⟨offers (by decide +kernel), rfl, rfl, rfl, rfl⟩

theorem witness_receiver : (List.replicate 256 (0xA5#8)).length ≤ 256 ∧ 0xA5#8 ∉ [0xA4#8, 0xA6#8, 0x00#8]
    ∧ be16 0 0 ≠ (crc (frameCore 0x2A 7 [])).toNat := by decide +kernel

theorem witness_request_layouts :
    (Request.admitOrder ⟨65535, 255, 255, 255, 4294967295, 255, 65535,
        List.replicate 255 ⟨65535, 4294967295, ⟨-128, 127, 0⟩, 65535⟩⟩).Fits
      ∧ (Request.setSize 255 none).Fits ∧ (Request.setSize 0 (some ⟨65535, 255, 65535, 65535, 65535⟩)).Fits
      ∧ (Request.loadMagazine ⟨255, 65535, 4294967295, some 4294967295, ⟨65535, 0, 0⟩, ⟨-128, 127, 0⟩⟩).Fits
      ∧ (Request.setLimits [(255, 4294967295)]).Fits ∧ (Request.setDrift ⟨127, -128, 0⟩).Fits
      ∧ (Request.setPrice 255 255 ⟨65535, 255, [⟨65535, 4294967295⟩], 255⟩).Fits
      ∧ (Request.setPromotion 255 (some ⟨true, 1, 65535, 65535, 65535, 65535, 0xFFFF, 0, 65535, 0, 0, 0⟩)).Fits
      ∧ (Request.setPromotion 0 (some ⟨false, 0, 0, 0, 0, 0, 0, 2, 0, 0, 255, 255⟩)).Fits
      ∧ (Request.queryStatus 255 255 65535).Fits ∧ Request.restart.Fits := by
  refine ⟨?_, ?_⟩
  · simp only [Request.Fits, FitsSigned]
    decide +kernel
  · simp [Request.Fits, FitsSigned, FitsNamed, Rgb.toList]

theorem test_layout_of_a_price :
    (Request.setPrice 0 2 ⟨210, 0, [⟨24, 45⟩, ⟨9999, 28⟩], 1⟩).layout =
      (0x18, [0, 2, 0, 0xD2, 0, 2, 0, 24, 0, 0, 0, 45, 0x27, 0x0F, 0, 0, 0, 28, 1]) := by decide

/-- `s` with this many frames in the receive buffer. -/
def buffered (n : Nat) : State := asked State.reset (List.replicate n (ask 0x2A []))

theorem witness_frames : (buffered 3).link.buffer.length < 4 ∧ 4 ≤ (buffered 4).link.buffer.length
    ∧ (buffered 4).link.rx = none ∧ (buffered 4).engine.resetAsserted = false
    ∧ be16 0 1 < 2 ∧ 258 < be16 1 3 ∧ be16 0 0 ≠ (crc (frameCore 0x2A 7 [])).toNat
    ∧ ({ State.reset with link := { State.reset.link with rx := some [0, 2] } } : State).link.rx = some [0, 2] := by
  decide +kernel

/-- A notice being sent, with the loss of others marked; a reply being sent; nothing being sent. -/
def sendingLast : State :=
  { inState .run with link := ⟨none, [], [], [.orderCollected 1], true, 3, .notice⟩ }

theorem witness_frame_sent :
    (brim.link.sending = .reply ∧ ∃ r rest, brim.link.replies = r :: rest ∧ ¬ (r.request = 0x2E#8 ∧ r.refusal = none))
      ∧ (State.reset.link.sending = .notice ∧ State.reset.link.notices = [.started .powerOn 1 0]
        ∧ State.reset.link.lost = false)
      ∧ (sendingLast.link.sending = .notice ∧ sendingLast.link.notices = [.orderCollected 1]
        ∧ sendingLast.link.lost = true)
      ∧ ∃ s : State, s.engine.resetAsserted = false ∧ s.link.sending = .nothing :=
  ⟨⟨rfl, _, _, rfl, by decide⟩, ⟨rfl, rfl, rfl⟩, ⟨rfl, rfl, rfl⟩,
    { State.reset with link := ⟨none, [], [], [], false, 0, .nothing⟩ }, rfl, rfl⟩

theorem witness_malformed :
    (asked State.reset [ask 0x17 []]).mayTake = true ∧ parseRequest (ask 0x17 []) = none
      ∧ (asked State.reset [ask 0x2A []]).mayTake = true ∧ parseRequest (ask 0x2A []) = some .pause
      ∧ (ask 0x2F []).kind ∉ [0x2D#8, 0x2E#8] := by decide +kernel

/-- A PAUSE is refused in SETUP: the refusal is the one reply. -/
theorem witness_answered_once :
    isRequestRow .pause = true ∧
      exec .pause (asked State.reset [ask 0x2A []]) = .next (after .pause (asked State.reset [ask 0x2A []]))
      ∧ (after .pause (asked State.reset [ask 0x2A []])).link.replies = [⟨7, 0x2A, some .mode, []⟩] :=
  ⟨rfl, rfl, by decide +kernel⟩

/-! ### Orders -/

/-- SETUP with product 5 (a print) and product 6 (an index) in the size table. -/
def sized : State :=
  { State.reset with mags := { State.reset.mags with
      sizes := (State.reset.mags.sizes.set 0 (some ⟨5, .print, .w127, 1270, 3⟩)).set 31
        (some ⟨6, .index, .w127, 500, 1⟩) } }

/-- The body of an order of `qty` copies of a product, with credit at its limit. -/
def admitBody (number credit product qty lines : Nat) : AdmitBody :=
  ⟨number, 1, 15, 1, credit, 1, 6, List.replicate lines ⟨product, 77, ⟨50, -50, 0⟩, qty⟩⟩

/-- The same as bytes. -/
def admitFrame (number credit product qty lines : Nat) : Frame :=
  ask 0x01 (b2 number ++ [1, 15, 1] ++ b4 credit ++ [1] ++ b2 6 ++ b1 lines
    ++ (List.replicate lines (b2 product ++ b4 77 ++ i1 50 ++ i1 (-50) ++ i1 0 ++ b2 qty)).flatten)

/-- Every slot occupied. -/
def fullTable : State :=
  { sized with orders := { sized.orders with recs := Vector.replicate 64 (some (order1001 .ready 0)) } }

theorem notSized {s : State} {p : Nat} {k : PrintKind}
    (h : (s.lookupSize p).all (fun z => z.kind != k) = true) : s.NotSized p k := by
  intro z hz
  simpa [hz] using h

theorem sizedFor {s : State} {p : Nat} {k : PrintKind}
    (h : (s.lookupSize p).any (fun z => z.kind == k) = true) : ¬ s.NotSized p k := by
  intro hn
  cases hz : s.lookupSize p with
  | none => simp [hz] at h
  | some z => exact hn z hz (by simpa [hz] using h)

theorem witness_admit_checks :
    let f := admitFrame 1001 1000000 5 999 16
    let b := admitBody 1001 1000000 5 999 16
    ((asked (halted [.jam]) [f]).Offers f [] (.admitOrder b) ∧ 0 < (halted [.jam]).sorter.binCapacity)
      ∧ (asked sized [admitFrame 1001 1000001 5 999 16]).Offers (admitFrame 1001 1000001 5 999 16) []
          (.admitOrder (admitBody 1001 1000001 5 999 16))
      ∧ (admitBody 1001 1000001 5 999 16).BadValue
      ∧ (¬ b.BadValue ∧ (asked fullTable [f]).Offers f [] (.admitOrder b) ∧ (asked fullTable [f]).NoPlace)
      ∧ ((asked (holding sized 5 (order1001 .ready 0)) [f]).Offers f [] (.admitOrder b)
        ∧ (asked (holding sized 5 (order1001 .ready 0)) [f]).Known 1001)
      ∧ ((asked sized [admitFrame 1001 0 6 1 1]).Offers (admitFrame 1001 0 6 1 1) [] (.admitOrder (admitBody 1001 0 6 1 1))
        ∧ (asked sized [admitFrame 1001 0 6 1 1]).BadProducts (admitBody 1001 0 6 1 1))
      ∧ ((asked sized [f]).Offers f [] (.admitOrder b) ∧ ¬ (asked sized [f]).BadProducts b
        ∧ (asked sized [f]).TooLarge b) := by
  refine ⟨⟨offers (by decide +kernel), by decide⟩, offers (by decide +kernel), ?_,
    ⟨?_, offers (by decide +kernel), .inl ?_⟩, ⟨offers (by decide +kernel), 5, _, rfl, rfl⟩,
    ⟨offers (by decide +kernel), .inl ⟨_, by simp [admitBody]; rfl, notSized (by decide +kernel)⟩⟩,
    offers (by decide +kernel), ?_, ?_, ?_⟩
  · exact .inr (.inr (.inr (.inl ⟨rfl, by decide⟩)))
  · simp [AdmitBody.BadValue, admitBody]
  · intro i; simp [State.order, asked, fullTable]
  · rintro (⟨l, hl, h⟩ | ⟨-, h⟩)
    · have : l.product = 5 := by simp [admitBody] at hl; simp [hl]
      rw [this] at h
      exact sizedFor (by decide +kernel) h
    · exact sizedFor (by decide +kernel) h
  · decide +kernel
  · decide +kernel

theorem witness_admit_creates :
    let f := admitFrame 65535 1000000 5 33 1
    let b := admitBody 65535 1000000 5 33 1
    let s := asked (holding sized 0 (order1001 .ready 0)) [f]
    s.Offers f [] (.admitOrder b) ∧ 0 < s.sorter.binCapacity ∧ s.engine.state.open_ ∧ ¬ b.BadValue
      ∧ s.order 1 = none ∧ (∀ i < (1 : Slot), s.order i ≠ none) ∧ s.orders.seq < 4294967295 ∧ ¬ s.Known 65535
      ∧ ¬ s.BadProducts b ∧ ¬ s.TooLarge b := by
  refine ⟨offers (by decide +kernel), by decide, .inl rfl, by simp [AdmitBody.BadValue, admitBody], by decide +kernel,
    by decide +kernel, by decide, unknown (by decide +kernel), ?_, ?_⟩
  · rintro (⟨l, hl, h⟩ | ⟨-, h⟩)
    · have : l.product = 5 := by simp [admitBody] at hl; simp [hl]
      rw [this] at h
      exact sizedFor (by decide +kernel) h
    · exact sizedFor (by decide +kernel) h
  · simp only [State.TooLarge]; decide +kernel

theorem witness_unknown_order :
    let ok := fun (k : Byte) (body : List Byte) (r : Request) =>
      (asked State.reset [ask k body]).link.buffer = [ask k body] ∧ (asked State.reset [ask k body]).mayTake = true
        ∧ parseRequest (ask k body) = some r
    ¬ State.reset.Known 1001 ∧ ok 0x02 (b2 1001) (.cancelOrder 1001) ∧ ok 0x03 (b2 1001) (.holdOrder 1001)
      ∧ ok 0x04 (b2 1001) (.releaseOrder 1001) ∧ ok 0x05 (b2 1001) (.acceptOrder 1001)
      ∧ ok 0x06 (b2 1001 ++ b2 0) (.queryOrder 1001 0) ∧ ok 0x07 (b2 1001 ++ b2 0) (.quoteOrder 1001 0)
      ∧ ok 0x08 (b2 1001) (.repriceOrder 1001) :=
  ⟨unknown (by decide +kernel), by decide +kernel⟩

/-- RUN with an order in a state, and one request waiting. -/
def orderAsked (kind : Byte) (o : Order) : State := asked (holding (inState .run) 5 o) [ask kind (b2 1001)]

theorem witness_hold_release_cancel :
    let w := order1001 .waiting 0
    let r := order1001 .ready 0
    let h := { w with held := true }
    let waits := { orderAsked 0x03 w with sched := { (inState .run).sched with binWait := [5] } }
    ((orderAsked 0x03 w).Names 1001 5 w ∧ (orderAsked 0x03 w).Offers (ask 0x03 (b2 1001)) [] (.holdOrder 1001)
        ∧ 5 ∉ (orderAsked 0x03 w).sched.binWait)
      ∧ (waits.Names 1001 5 w ∧ waits.Offers (ask 0x03 (b2 1001)) [] (.holdOrder 1001) ∧ 5 ∈ waits.sched.binWait)
      ∧ ((orderAsked 0x04 h).Names 1001 5 h ∧ (orderAsked 0x04 h).Offers (ask 0x04 (b2 1001)) [] (.releaseOrder 1001))
      ∧ ((orderAsked 0x04 w).Names 1001 5 w ∧ (orderAsked 0x04 w).Offers (ask 0x04 (b2 1001)) [] (.releaseOrder 1001))
      ∧ ((orderAsked 0x03 r).Names 1001 5 r ∧ (orderAsked 0x03 r).Offers (ask 0x03 (b2 1001)) [] (.holdOrder 1001))
      ∧ (orderAsked 0x04 r).Offers (ask 0x04 (b2 1001)) [] (.releaseOrder 1001)
      ∧ (orderAsked 0x02 r).Offers (ask 0x02 (b2 1001)) [] (.cancelOrder 1001)
      ∧ ((orderAsked 0x02 w).Names 1001 5 w ∧ (orderAsked 0x02 w).Offers (ask 0x02 (b2 1001)) [] (.cancelOrder 1001)) := by
  refine ⟨⟨names ?_, offers ?_, ?_⟩, ⟨names ?_, offers ?_, ?_⟩, ⟨names ?_, offers ?_⟩, ⟨names ?_, offers ?_⟩,
    ⟨names ?_, offers ?_⟩, offers ?_, offers ?_, names ?_, offers ?_⟩ <;> decide +kernel

/-- A slot whose order holds bin 1, which reads empty, and bin 2, which reads occupied, with this many delivered. -/
def cancelling (st : OrderState) (delivered inFlight : Nat) (full : Bool) : State :=
  let l := { threeCopies with queued := 0, delivered := delivered, cancelled := 3 - delivered }
  let s := holding (inState .run) 5 { order1001 st inFlight with lines := [l], bins := [⟨0, 0⟩, ⟨1, 1⟩] }
  { s with sorter := { s.sorter with
      bins := (s.sorter.bins.set 0 ⟨.owned, some 5, some 0, 0, 0, false⟩).set 1 ⟨.owned, some 5, some 1, 9, 0, full⟩ } }

theorem witness_cancel_printing :
    let o := order1001 .printing 1
    let z := order1001 .printing 0
    let emptied := fun (s : State) (p : Container) => (s.place p).ownedBy 5 = true ∧ (s.place p).occupied = false
    ((orderAsked 0x02 o).Names 1001 5 o ∧ (orderAsked 0x02 o).Offers (ask 0x02 (b2 1001)) [] (.cancelOrder 1001)
      ∧ o.state = .printing ∧ 0 < o.inFlight)
    ∧ ((orderAsked 0x02 z).Names 1001 5 z ∧ (orderAsked 0x02 z).Offers (ask 0x02 (b2 1001)) [] (.cancelOrder 1001)
      ∧ z.inFlight = 0)
    ∧ (∃ q, (cancelling .cancelling 0 2 true).order 5 = some q ∧ q.state = .cancelling ∧ 1 < q.inFlight)
    ∧ (∃ q, (cancelling .cancelling 1 1 true).order 5 = some q ∧ q.state = .cancelling ∧ q.inFlight ≤ 1)
    ∧ (∃ q, (cancelling .cancelling 0 0 true).order 5 = some q ∧ ∀ l ∈ q.lines, l.delivered = 0)
    ∧ (∃ q, (cancelling .cancelling 1 0 true).order 5 = some q ∧ ∃ l ∈ q.lines, l.delivered ≠ 0)
    ∧ emptied (cancelling .cancelling 0 0 true) (.bin 0)
    ∧ (((cancelling .cancelling 0 0 true).place (.bin 1)).ownedBy 5 = true
      ∧ ((cancelling .cancelling 0 0 true).place (.bin 1)).occupied = true)
    ∧ ((cancelling .cancelling 0 0 true).place .tray).ownedBy 5 = false := by
  refine ⟨⟨names ?_, offers ?_, ?_, ?_⟩, ⟨names ?_, offers ?_, ?_⟩, ⟨_, rfl, ?_, ?_⟩, ⟨_, rfl, ?_, ?_⟩, ⟨_, rfl, ?_⟩,
    ⟨_, rfl, ?_⟩, ?_, ?_, ?_⟩ <;> decide +kernel

theorem test_the_end_of_a_cancel :
    let gone := (cancelling .cancelling 0 1 true).leftFlight 5
    let kept := (cancelling .cancelling 1 1 true).leftFlight 5
    let free := (cancelling .cancelling 1 1 false).leftFlight 5
    (gone.order 5 = none ∧ (gone.place (.bin 0)).state = .free ∧ (gone.place (.bin 1)).state = .stale)
      ∧ (kept.order 5).map (fun o => (o.state, o.bins)) = some (.cancelled, [⟨1, 1⟩])
      ∧ (kept.place (.bin 1)).state = .ready ∧ free.order 5 = none
      ∧ free.link.notices.getLast? = some (.orderCancelled 1001) := by decide +kernel

/-- An order in ATTENTION for SHORT, with a bin or without, priced or with PRICE FAULT. -/
def attending (short fault : Bool) (bins : List ChainEntry) : Order :=
  { order1001 .attention 0 with shortReason := short, priceFault := fault, bins := bins }

theorem witness_accept_and_reprice :
    let stays := attending true false [⟨0, 0⟩]
    let goes := attending true false []
    let fault := attending false true []
    let r := order1001 .ready 0
    ((orderAsked 0x05 stays).Names 1001 5 stays ∧ (orderAsked 0x05 stays).Offers (ask 0x05 (b2 1001)) [] (.acceptOrder 1001))
      ∧ ((orderAsked 0x05 goes).Names 1001 5 goes ∧ (orderAsked 0x05 goes).Offers (ask 0x05 (b2 1001)) [] (.acceptOrder 1001))
      ∧ ((orderAsked 0x05 fault).Names 1001 5 fault
        ∧ (orderAsked 0x05 fault).Offers (ask 0x05 (b2 1001)) [] (.acceptOrder 1001))
      ∧ ((orderAsked 0x08 stays).Names 1001 5 stays ∧ (orderAsked 0x08 stays).Offers (ask 0x08 (b2 1001)) [] (.repriceOrder 1001)
        ∧ stays.shortReason = true)
      ∧ (let priced := { orderAsked 0x08 fault with pricing := { (orderAsked 0x08 fault).pricing with
          book := Pricing.powerOn.book.set 0 (Pricing.powerOn.book[0].set 0 (some ⟨5, .block, [⟨999, 45⟩], 0⟩)) } }
        priced.Names 1001 5 fault ∧ priced.Offers (ask 0x08 (b2 1001)) [] (.repriceOrder 1001)
          ∧ ((priced.pricing.compute fault Line.delivered).ov || (priced.pricing.compute fault Line.delivered).unpriced)
            = false ∧ fault.shortReason = false)
      ∧ ((orderAsked 0x08 r).Names 1001 5 r ∧ (orderAsked 0x08 r).Offers (ask 0x08 (b2 1001)) [] (.repriceOrder 1001)) := by
  refine ⟨⟨names ?_, offers ?_⟩, ⟨names ?_, offers ?_⟩, ⟨names ?_, offers ?_⟩, ⟨names ?_, offers ?_, ?_⟩,
    ⟨names ?_, offers ?_, ?_, ?_⟩, names ?_, offers ?_⟩ <;> decide +kernel

theorem witness_queries :
    let o := order1001 .printing 1
    let c := order1001 .cancelling 1
    let q := fun (o : Order) (f : Frame) => asked (holding (inState .run) 5 o) [f]
    let status := fun part param : Byte => ask 0x21 [part, param, 0, 0]
    ((q o (ask 0x06 (b2 1001 ++ b2 0))).Names 1001 5 o
        ∧ (q o (ask 0x06 (b2 1001 ++ b2 0))).Offers (ask 0x06 (b2 1001 ++ b2 0)) [] (.queryOrder 1001 0))
      ∧ (q o (ask 0x07 (b2 1001 ++ b2 3))).Offers (ask 0x07 (b2 1001 ++ b2 3)) [] (.quoteOrder 1001 3)
      ∧ ((q c (ask 0x07 (b2 1001 ++ b2 3))).Names 1001 5 c
        ∧ (q c (ask 0x07 (b2 1001 ++ b2 3))).Offers (ask 0x07 (b2 1001 ++ b2 3)) [] (.quoteOrder 1001 3))
      ∧ (q o (ask 0x20 (b2 0))).Offers (ask 0x20 (b2 0)) [] (.queryBins 0)
      ∧ (∀ part : Fin 9, (q o (status (BitVec.ofNat 8 part.val) 0)).Offers (status (BitVec.ofNat 8 part.val) 0) []
          (.queryStatus part.val 0 0))
      ∧ (∀ param ∈ [191, 192], (q o (status 4 (BitVec.ofNat 8 param))).Offers (status 4 (BitVec.ofNat 8 param)) []
          (.queryStatus 4 param 0))
      ∧ ∀ param ∈ [3, 4], (q o (status 6 (BitVec.ofNat 8 param))).Offers (status 6 (BitVec.ofNat 8 param)) []
          (.queryStatus 6 param 0) := by
  refine ⟨⟨names ?_, offers ?_⟩, offers ?_, ⟨names ?_, offers ?_⟩, offers ?_, fun part => offers ?_,
    fun param h => offers ?_, fun param h => offers ?_⟩
  all_goals first
    | decide +kernel
    | (revert part; decide +kernel)
    | (revert param; decide +kernel)

/-- The soak timer runs, with a QUERY STATUS of part 7 waiting. -/
def soaking : State := { asked (halted [.jam]) [ask 0x21 [7, 0, 0, 0]] with stop := { (halted [.jam]).stop with soak := some 90 } }

theorem witness_query_of_a_running_timer :
    soaking.Offers (ask 0x21 [7, 0, 0, 0]) [] (.queryStatus 7 0 0) ∧ soaking.stop.soak ≠ none :=
  ⟨offers (by decide +kernel), by decide⟩

theorem witness_completion :
    let o := { order1001 .printing 1 with lines := [{ threeCopies with queued := 0, delivered := 2, cancelled := 1 }] }
    let p := order1001 .printing 1
    (holding (inState .run) 5 o).order 5 = some o ∧ o.state = .printing ∧ 0 < o.inFlight
      ∧ (∀ l ∈ o.lines, l.delivered + l.cancelled = l.qty) ∧ ¬ (∀ l ∈ p.lines, l.delivered + l.cancelled = l.qty) := by
  decide +kernel

/-- An order with a copy on the web, its remakes used to this number of the 3 allowed. -/
def remade (used : Nat) : Order :=
  { order1001 .printing 1 with lines := [{ threeCopies with queued := 2, onWeb := 1, remakesUsed := used }] }

theorem witness_void :
    (holding (inState .run) 5 (remade 2)).order 5 = some (remade 2) ∧ (remade 2).state = .printing
      ∧ 0 < (remade 2).inFlight ∧ (remade 2).line 1 = some { threeCopies with queued := 2, onWeb := 1, remakesUsed := 2 }
      ∧ (holding (inState .run) 5 (remade 3)).order 5 = some (remade 3)
      ∧ (VoidCause.cutterMiss ≠ .cancelVoid ∧ VoidCause.haltVoid ≠ .cancelVoid) := by decide +kernel

/-! ### Tables and limits -/

/-- One frame waiting in this state. -/
abbrev one (s : State) (f : Frame) : State := asked s [f]

/-- SET SIZE of index 31 and of index 32, full or empty. -/
def sizeFrame (index product kind width length units : Nat) : Frame :=
  ask 0x10 (b1 index ++ [1] ++ b2 product ++ b1 kind ++ b2 width ++ b2 length ++ b2 units)
def emptyFrame (index : Nat) : Frame := ask 0x10 (b1 index ++ List.replicate 10 0)

theorem witness_set_size :
    let inUse := holding sized 5 (order1001 .ready 0)
    ((one (inState .run) (emptyFrame 31)).Offers (emptyFrame 31) [] (.setSize 31 none)
        ∧ (inState .run).engine.state ≠ .setup)
      ∧ (one sized (emptyFrame 32)).Offers (emptyFrame 32) [] (.setSize 32 none)
      ∧ ((one inUse (emptyFrame 0)).Offers (emptyFrame 0) [] (.setSize 0 none)
        ∧ ∃ z, inUse.mags.sizes[0] = some z ∧ inUse.InUse z.product)
      ∧ ((one sized (emptyFrame 31)).Offers (emptyFrame 31) [] (.setSize 31 none)
        ∧ ∀ z, sized.mags.sizes[31] = some z → ¬ sized.InUse z.product)
      ∧ ((one sized (sizeFrame 31 4095 1 127 499 1)).Offers (sizeFrame 31 4095 1 127 499 1) []
          (.setSize 31 (some ⟨4095, 1, 127, 499, 1⟩)) ∧ ∀ w, ¬ (⟨4095, 1, 127, 499, 1⟩ : SizeBody).InRange w)
      ∧ ((one inUse (sizeFrame 0 4095 1 305 500 10)).Offers (sizeFrame 0 4095 1 305 500 10) []
          (.setSize 0 (some ⟨4095, 1, 305, 500, 10⟩)) ∧ (⟨4095, 1, 305, 500, 10⟩ : SizeBody).InRange .w305)
      ∧ ((one sized (sizeFrame 31 5 0 89 4500 1)).Offers (sizeFrame 31 5 0 89 4500 1) []
          (.setSize 31 (some ⟨5, 0, 89, 4500, 1⟩)) ∧ (⟨5, 0, 89, 4500, 1⟩ : SizeBody).InRange .w89
        ∧ ∃ (j : Fin 32) (z : SizeEntry), j ≠ 31 ∧ sized.mags.sizes[j] = some z ∧ z.product = 5)
      ∧ ((one sized (sizeFrame 31 4095 1 305 500 10)).Offers (sizeFrame 31 4095 1 305 500 10) []
          (.setSize 31 (some ⟨4095, 1, 305, 500, 10⟩))
        ∧ ∀ (j : Fin 32) (z : SizeEntry), sized.mags.sizes[j] = some z → z.product = 4095 → j = 31) := by
  have free : ∀ p, ¬ sized.InUse p := by
    rintro p ⟨i, o, h, -⟩
    simp [State.order, sized, State.reset, OrderTable.powerOn] at h
  refine ⟨⟨offers ?_, by decide⟩, offers ?_, ⟨offers ?_, _, rfl, 5, _, rfl, _, List.mem_singleton.mpr rfl, rfl⟩,
    ⟨offers ?_, fun z _ => free _⟩, ⟨offers ?_, ?_⟩, ⟨offers ?_, ?_⟩,
    ⟨offers ?_, ?_, 0, _, by decide, rfl, rfl⟩, offers ?_, ?_⟩
  all_goals first
    | (decide +kernel)
    | (intro w; simp [SizeBody.InRange])
    | (simp [SizeBody.InRange, Width.mm]; done)

/-- LOAD MAGAZINE with no low threshold, base times and offsets at the ends of their ranges. -/
def loadFrame (mag width remaining : Nat) : Frame :=
  ask 0x11 (b1 mag ++ b2 width ++ b4 remaining ++ [0, 0, 0, 0, 0] ++ b2 20 ++ b2 5000 ++ b2 700 ++ i1 (-50) ++ i1 50
    ++ i1 0)
def loadBody (mag width remaining : Nat) : LoadBody := ⟨mag, width, remaining, none, ⟨20, 5000, 700⟩, ⟨-50, 50, 0⟩⟩

theorem loadRight (mag width : Nat) {remaining : Nat} (h : 0 < remaining) : (loadBody mag width remaining).Right := by
  refine ⟨h, by simp [loadBody], ?_, ?_⟩ <;> simp [loadBody, Rgb.toList]

theorem witness_magazines :
    let closed := halted [.jam]
    let paper := threaded (inState .run) 100000
    let loads := fun (s : State) (mag width remaining : Nat) => (one s (loadFrame mag width remaining)).Offers
      (loadFrame mag width remaining) [] (.loadMagazine (loadBody mag width remaining))
    let unloads := fun (s : State) (mag : Nat) => (one s (ask 0x12 (b1 mag))).Offers (ask 0x12 (b1 mag)) []
      (.unloadMagazine mag)
    (loads closed 1 127 1 ∧ unloads closed 1 ∧ closed.engine.state = .halted ∧ HaltCause.magazine ∉ closed.stop.causes)
      ∧ (loads (halted [.magazine]) 2 127 1 ∧ ¬ ((halted [.magazine]).engine.state = .halted
          ∧ HaltCause.magazine ∉ (halted [.magazine]).stop.causes))
      ∧ (loads paper 1 128 1 ∧ ∀ w : Width, 128 ≠ w.mm)
      ∧ (loads paper 1 127 0 ∧ ¬ (loadBody 1 127 0).Right)
      ∧ (loads paper 0 127 1800001 ∧ unloads paper 0 ∧ (loadBody 0 127 1800001).Right
          ∧ ∃ r, paper.mags.get .a = some r ∧ r.state = .active)
      ∧ (loads paper 1 305 1800001 ∧ (loadBody 1 305 1800001).Right ∧ paper.mags.get .b = none
          ∧ paper.mags.change.targets .b = false)
      ∧ (unloads paper 2 ∧ unloads paper 1)
      ∧ (unloads (halted [.magazine]) 1 ∧ loads State.reset 1 305 1
          ∧ unloads { State.reset with mags := { paper.mags with
              magA := paper.mags.magA.map fun r => { r with state := .loaded }, selector := none } } 0) := by
  refine ⟨⟨offers ?_, offers ?_, ?_⟩, ⟨offers ?_, ?_⟩, ⟨offers ?_, ?_⟩, ⟨offers ?_, ?_⟩,
    ⟨offers ?_, offers ?_, loadRight _ _ (by decide), _, rfl, rfl⟩,
    ⟨offers ?_, loadRight _ _ (by decide), ?_⟩, ⟨offers ?_, offers ?_⟩, offers ?_, offers ?_, offers ?_⟩
  all_goals first
    | decide +kernel
    | (intro w; cases w <;> decide)
    | simp [LoadBody.Right, loadBody]

theorem witness_drift_tax_bank_count :
    let s := State.reset
    let r := inState .run
    let drift := fun z : Int => ask 0x13 (i1 50 ++ i1 z ++ i1 (-50))
    (one r (drift 50)).Offers (drift 50) [] (.setDrift ⟨50, 50, -50⟩)
      ∧ (one r (drift 51)).Offers (drift 51) [] (.setDrift ⟨50, 51, -50⟩)
      ∧ (one r (ask 0x1B (b1 3 ++ b2 10000))).Offers (ask 0x1B (b1 3 ++ b2 10000)) [] (.setTax 3 10000)
      ∧ (one s (ask 0x1B (b1 3 ++ b2 10000))).Offers (ask 0x1B (b1 3 ++ b2 10000)) [] (.setTax 3 10000)
      ∧ (one s (ask 0x1B (b1 4 ++ b2 10000))).Offers (ask 0x1B (b1 4 ++ b2 10000)) [] (.setTax 4 10000)
      ∧ (one s (ask 0x1B (b1 3 ++ b2 10001))).Offers (ask 0x1B (b1 3 ++ b2 10001)) [] (.setTax 3 10001)
      ∧ (∀ k ∈ [0, 1, 3, 4], (one r (ask 0x1C (b1 k))).Offers (ask 0x1C (b1 k)) [] (.selectBank k))
      ∧ (one r (ask 0x16 [255])).Offers (ask 0x16 [255]) [] (.setFaultCount 255)
      ∧ (one s (ask 0x16 [255])).Offers (ask 0x16 [255]) [] (.setFaultCount 255)
      ∧ ∃ f rest value, (one s (ask 0x16 [0])).Offers f rest (.setFaultCount value) ∧ value ≤ 255 := by
  refine ⟨offers ?_, offers ?_, offers ?_, offers ?_, offers ?_, offers ?_, fun k h => offers ?_, offers ?_, offers ?_,
    ask 0x16 [0], [], 0, offers ?_, ?_⟩
  all_goals first | decide +kernel | (revert k; decide +kernel)

/-- SET STATIONS and SET LIMITS with these entries. -/
def namedFrame (kind : Byte) (es : List (Nat × Nat)) : Frame :=
  ask kind (b1 es.length ++ (es.map fun e => b1 e.1 ++ b4 e.2).flatten)

theorem limitsRange {es : List (Nat × Nat)} (h : es.all (fun e => decide ((e.1 = 1 ∧ e.2 ≤ 15) ∨ (e.1 = 2 ∧ e.2 ≤ 8)
    ∨ (e.1 = 3 ∧ 20 ≤ e.2 ∧ e.2 ≤ 250) ∨ (e.1 = 4 ∧ 100 ≤ e.2 ∧ e.2 ≤ 1000) ∨ (e.1 = 5 ∧ e.2 ≤ 15)
    ∨ (e.1 = 6 ∧ 10 ≤ e.2 ∧ e.2 ≤ 600) ∨ (e.1 = 7 ∧ 1 ≤ e.2 ∧ e.2 ≤ 255) ∨ (e.1 = 8 ∧ 100 ≤ e.2 ∧ e.2 ≤ 10000)
    ∨ (e.1 = 9 ∧ 10 ≤ e.2 ∧ e.2 ≤ 100) ∨ (e.1 = 10 ∧ 5 ≤ e.2 ∧ e.2 ≤ 50))) = true) : LimitsInRange es :=
  fun e he => of_decide_eq_true (List.all_eq_true.mp h e he)

theorem witness_stations_and_limits :
    let s := State.reset
    let r := inState .paused
    let crowd := holding r 5 (order1001 .printing 1)
    let crowded := { crowd with sorter := { crowd.sorter with
      bins := Vector.replicate 24 ⟨.owned, some 5, some 0, 0, 0, false⟩ } }
    let stations := fun (s : State) es => (one s (namedFrame 0x14 es)).Offers (namedFrame 0x14 es) [] (.setStations es)
    let limits := fun (s : State) es => (one s (namedFrame 0x15 es)).Offers (namedFrame 0x15 es) [] (.setLimits es)
    (stations r [(0, 1)] ∧ stations s [(0, 1), (3, 150000)] ∧ stations s [(3, 150001)] ∧ stations s [(0, 1), (0, 1)])
      ∧ limits (halted [.jam]) [(1, 15)]
      ∧ (limits s [(1, 16)] ∧ ¬ LimitsInRange [(1, 16)])
      ∧ (limits r [(1, 15), (3, 250)] ∧ LimitsInRange [(1, 15), (3, 250)])
      ∧ (limits crowded [(2, 1)] ∧ LimitsInRange [(2, 1)] ∧ crowded.standardOwned = 24)
      ∧ (limits s [(10, 50), (5, 15), (6, 600)] ∧ LimitsInRange [(10, 50), (5, 15), (6, 600)])
      ∧ (limits r [(1, 0), (2, 8)] ∧ LimitsInRange [(1, 0), (2, 8)] ∧ r.standardOwned = 0) := by
  refine ⟨⟨offers ?_, offers ?_, offers ?_, offers ?_⟩, offers ?_, ⟨offers ?_, ?_⟩, ⟨offers ?_, limitsRange ?_⟩,
    ⟨offers ?_, limitsRange ?_, ?_⟩, ⟨offers ?_, limitsRange ?_⟩, offers ?_, limitsRange ?_, ?_⟩
  all_goals first
    | decide +kernel
    | (intro h; have := h (1, 16) (by simp); omega)

/-- SET PRICE of one tier of a product. -/
def priceFrame (bank index product ending price tax : Nat) : Frame :=
  ask 0x18 (b1 bank ++ b1 index ++ b2 product ++ [1, 1] ++ b2 ending ++ b4 price ++ b1 tax)
def priceBody (product ending price tax : Nat) : PriceBody := ⟨product, 1, [⟨ending, price⟩], tax⟩

theorem priceRight {product ending price tax : Nat} (h : product ≤ 4095 ∧ tax < 4 ∧ 1 ≤ ending ∧ ending ≤ 9999
    ∧ price ≤ 999999) : (priceBody product ending price tax).Right := by
  obtain ⟨a, b, c, d, e⟩ := h
  refine ⟨a, Nat.le_refl 1, b, by simp [priceBody], by simp [priceBody], ?_, by simp [priceBody]⟩
  simpa [priceBody] using ⟨c, d, e⟩

/-- RUN with a price for product 5 in the common bank. -/
def priced : State :=
  let s := inState .run
  { s with pricing := { s.pricing with
      book := s.pricing.book.set 0 (s.pricing.book[0].set 0 (some ⟨5, .block, [⟨999, 45⟩], 0⟩)) } }

theorem witness_prices :
    let sets := fun (s : State) (bank index product ending price tax : Nat) =>
      (one s (priceFrame bank index product ending price tax)).Offers (priceFrame bank index product ending price tax) []
        (.setPrice bank index (priceBody product ending price tax))
    let clears := fun (s : State) (bank index : Nat) =>
      (one s (ask 0x19 (b1 bank ++ b1 index))).Offers (ask 0x19 (b1 bank ++ b1 index)) [] (.clearPrice bank index)
    (sets (halted [.jam]) 3 31 4095 9999 999999 3 ∧ clears (halted [.jam]) 3 31)
      ∧ (sets priced 4 31 4095 9999 999999 3 ∧ sets priced 3 32 4095 9999 999999 3 ∧ sets priced 3 31 4096 9999 999999 3
        ∧ ¬ (priceBody 4096 9999 999999 3).Right ∧ clears priced 4 31 ∧ clears priced 3 32)
      ∧ (sets priced 0 31 4095 9999 999999 3 ∧ clears priced 0 31 ∧ (priceBody 4095 9999 999999 3).Right
        ∧ priced.pricing.BankUsed 0)
      ∧ (sets priced 3 31 5 1 0 0 ∧ (priceBody 5 1 0 0).Right ∧ ¬ priced.pricing.BankUsed 3
        ∧ priced.pricing.Twice 3 31 5)
      ∧ (sets priced 3 31 4095 1 0 0 ∧ clears priced 3 0 ∧ ¬ priced.pricing.Twice 3 31 4095) := by
  have unused : ¬ priced.pricing.BankUsed 3 := by
    rintro (h | h | ⟨k, h, hk⟩)
    · exact absurd h (by decide)
    · exact absurd h (by decide)
    · revert k; decide +kernel
  have none3 : ∀ j : Fin 32, priced.pricing.book[(3 : BankIx)][j] = none := by decide +kernel
  have free : ∀ (j : Fin 32) (e : PriceEntry), priced.pricing.book[(0 : BankIx)][j] = some e → e.product ≠ 4095 := by
    decide +kernel
  have once : ¬ priced.pricing.Twice 3 31 4095 := by
    rintro (⟨j, e, -, h, -⟩ | ⟨h, -⟩ | ⟨-, j, e, h, hp⟩)
    · rw [none3 j] at h; cases h
    · exact absurd h (by decide)
    · exact free j e h hp
  refine ⟨⟨offers ?_, offers ?_⟩, ⟨offers ?_, offers ?_, offers ?_, ?_, offers ?_, offers ?_⟩,
    ⟨offers ?_, offers ?_, priceRight (by decide), .inl rfl⟩, ⟨offers ?_, priceRight (by decide), unused,
    .inr (.inr ⟨by decide, 0, _, rfl, rfl⟩)⟩, offers ?_, offers ?_, once⟩
  all_goals first | decide +kernel | (intro h; exact absurd h.1 (by decide))

/-- SET PROMOTION of BUNDLE n for m with a single match. -/
def promoFrame (index n m : Nat) : Frame :=
  ask 0x1A (b1 index ++ [1, 1, 0] ++ b2 4095 ++ b2 4095 ++ [0, 0, 0, 0, 0, 0] ++ b2 0xFFFF ++ [2, 0, 0, 0, 0, 0, 0, 0, 0]
    ++ [1] ++ b1 n ++ [1] ++ b1 m)
def promoBody (n m : Nat) : PromoBody := ⟨true, 0, 4095, 4095, 0, 0, 0xFFFF, 2, 0, 0, n, m⟩

theorem witness_promotions :
    let empty := fun index : Nat => ask 0x1A (b1 index ++ List.replicate 28 0)
    (one priced (promoFrame 16 20 19)).Offers (promoFrame 16 20 19) [] (.setPromotion 16 (some (promoBody 20 19)))
      ∧ (one priced (empty 15)).Offers (empty 15) [] (.setPromotion 15 none)
      ∧ ((one priced (promoFrame 15 20 20)).Offers (promoFrame 15 20 20) [] (.setPromotion 15 (some (promoBody 20 20)))
        ∧ ∀ p, ¬ (promoBody 20 20).Spells p)
      ∧ ((one priced (promoFrame 15 20 19)).Offers (promoFrame 15 20 19) [] (.setPromotion 15 (some (promoBody 20 19)))
        ∧ (promoBody 20 19).Spells ⟨true, ⟨4095, 4095⟩, none, 0xFFFF, .bundle 20 19⟩) := by
  refine ⟨offers ?_, offers ?_, ⟨offers ?_, ?_⟩, offers ?_, ?_⟩
  all_goals first
    | decide +kernel
    | (rintro p ⟨-, -, -, -, -, -, h⟩; simp [promoBody] at h)
    | (simp [PromoBody.Spells, promoBody])

theorem witness_patterns :
    let s := State.reset
    let lit := { inState .setup with stop := { s.stop with active := [.paperLow] } }
    (one (inState .run) (ask 0x1D [5, 15, 1])).Offers (ask 0x1D [5, 15, 1]) [] (.setPattern 5 15 true)
      ∧ (one s (ask 0x1D [6, 15, 1])).Offers (ask 0x1D [6, 15, 1]) [] (.setPattern 6 15 true)
      ∧ (one s (ask 0x1D [5, 16, 1])).Offers (ask 0x1D [5, 16, 1]) [] (.setPattern 5 16 true)
      ∧ ((one s (ask 0x1D [5, 15, 1])).Offers (ask 0x1D [5, 15, 1]) [] (.setPattern 5 15 true)
        ∧ s.stop.active.head? ≠ some .paperLow)
      ∧ ((one lit (ask 0x1D [5, 0, 0])).Offers (ask 0x1D [5, 0, 0]) [] (.setPattern 5 0 false)
        ∧ lit.stop.active.head? = some .paperLow ∧ lit.stop.patterns[Condition.paperLow.ix].hz8 = true)
      ∧ (one lit (ask 0x1E [])).Offers (ask 0x1E []) [] .silence
      ∧ ({ lit with stop := { lit.stop with active := [.expressReady] } } : State).stop.patterns[Condition.expressReady.ix]
        = ⟨false, false, false, false, false⟩
      ∧ s.stop.active = [] := by
  refine ⟨offers ?_, offers ?_, offers ?_, ⟨offers ?_, ?_⟩, ⟨offers ?_, ?_⟩, offers ?_, ?_⟩ <;> decide +kernel

/-- R163, R165 and R190: cause, set, return state in a byte each, then the jam source and the number with a presence
byte each. -/
theorem test_body_of_a_halted_notice :
    (Notice.halted .jam [.jam] .paused (some (.sorter, 5))).body.length = 7
      ∧ (Notice.halted .raster [.raster] .paused none).body.drop 2 = [2, 0, 0, 0, 0] := by decide

theorem witness_annunciator :
    let s := halted [.jam]
    (∃ c ∈ s.annunciate.stop.active, c ∉ s.stop.active)
      ∧ ∀ c ∈ s.annunciate.annunciate.stop.active, c ∈ s.annunciate.stop.active := by decide +kernel

/-! ### The engine -/

theorem witness_enter_setup :
    let ok := fun s : State => (one s (ask 0x28 [])).Offers (ask 0x28 []) [] .enterSetup
    ok State.reset ∧ ok (inState .recovery) ∧ (ok busy ∧ ∃ g ∈ busy.web.queue, g.kind = .print ∨ g.kind = .index)
      ∧ (ok (inState .paused) ∧ ¬ ∃ g ∈ (inState .paused).web.queue, g.kind = .print ∨ g.kind = .index)
      ∧ (ok (halted [.jam]) ∧ (halted [.jam]).engine.state = .halted) := by
  refine ⟨offers ?_, offers ?_, ⟨offers ?_, ?_⟩, ⟨offers ?_, ?_⟩, offers ?_, ?_⟩ <;> decide +kernel

/-- SETUP with paper and this fault count. -/
def readyToRun (count : Nat) (due : Bool) : State :=
  let s := threaded State.reset 100
  { s with cutter := { s.cutter with count := count, recovery := { s.cutter.recovery with shortDue := due } } }

theorem witness_enter_run :
    let ok := fun s : State => (one s (ask 0x29 [])).Offers (ask 0x29 []) [] .enterRun
    let paper := fun s : State => ∃ (m : MagId) (r : MagRec), s.mags.get m = some r ∧ r.state ≠ .empty
    let jammed := { readyToRun 0 false with stop := { State.reset.stop with j2 := true } }
    let wrong := { readyToRun 0 false with web := { State.reset.web with stations := ⟨8000, 8000, 60000, 68000⟩ } }
    ok (inState .run) ∧ (ok State.reset ∧ ¬ paper State.reset) ∧ (ok jammed ∧ paper jammed) ∧ (ok wrong ∧ paper wrong)
      ∧ (ok (readyToRun 255 false) ∧ paper (readyToRun 255 false) ∧ (readyToRun 255 false).expo.calls = [])
      ∧ (ok (readyToRun 254 true) ∧ paper (readyToRun 254 true) ∧ (readyToRun 254 true).cutter.check = none)
      ∧ (ok (readyToRun 254 false) ∧ paper (readyToRun 254 false) ∧ (readyToRun 254 false).engine.webUnknown = true) := by
  refine ⟨offers ?_, ⟨offers ?_, ?_⟩, ⟨offers ?_, .a, _, rfl, ?_⟩, ⟨offers ?_, .a, _, rfl, ?_⟩,
    ⟨offers ?_, ⟨.a, _, rfl, ?_⟩, ?_⟩, ⟨offers ?_, ⟨.a, _, rfl, ?_⟩, ?_⟩, offers ?_, ⟨.a, _, rfl, ?_⟩, ?_⟩
  all_goals first
    | decide +kernel
    | (rintro ⟨m, r, h, -⟩; cases m <;> cases h)

theorem witness_pause_and_continue :
    let ok := fun (s : State) (k : Byte) (r : Request) => (one s (ask k [])).Offers (ask k []) [] r
    (∀ e ∈ [EngineState.setup, .run, .paused, .halted, .recovery], ok (inState e) 0x2A .pause)
      ∧ (∀ e ∈ [EngineState.setup, .run, .paused, .halted, .recovery], ok (inState e) 0x2B .continueRun)
      ∧ ok busy 0x2A .pause := by
  refine ⟨fun e h => offers ?_, fun e h => offers ?_, offers ?_⟩
  all_goals first | decide +kernel | (revert e; decide +kernel)

theorem witness_resume_and_restart :
    let ok := fun (s : State) (k : Byte) (r : Request) => (one s (ask k [])).Offers (ask k []) [] r
    let jammed := { halted [.cutter] with stop := { (halted [.cutter]).stop with j3 := true } }
    let inRecovery := { halted [.jam] with stop := { (halted [.jam]).stop with ret := some .recovery } }
    let unknownWeb := { halted [.jam, .raster] with engine := ⟨.halted, true, .powerOn, false⟩ }
    (ok (inState .run) 0x2C .resume ∧ ok jammed 0x2C .resume ∧ ok (halted [.raster, .cutter]) 0x2C .resume
        ∧ ok (halted [.jam, .raster]) 0x2C .resume ∧ ok inRecovery 0x2C .resume ∧ ok unknownWeb 0x2C .resume)
      ∧ (ok (inState .run) 0x2D .cutterRestart ∧ ok jammed 0x2D .cutterRestart
        ∧ ok (halted [.jam, .cutter]) 0x2D .cutterRestart ∧ ok (halted [.cutter]) 0x2D .cutterRestart)
      ∧ (halted [.cutter]).stop.causes ≠ [] ∧ (∀ c ∈ (halted [.cutter]).stop.causes, c = .cutter)
      ∧ (halted [.cutter]).stop.ret = some .run := by
  refine ⟨⟨offers ?_, offers ?_, offers ?_, offers ?_, offers ?_, offers ?_⟩,
    ⟨offers ?_, offers ?_, offers ?_, offers ?_⟩, ?_⟩ <;> decide +kernel

/-- An order in slot 5 alone, of 3 copies, one of them on the web: its counts add up and count that copy. -/
theorem counted_one {s : State} (h : ∀ slot o, s.order slot = some o → slot = 5 ∧ o = remade 0) :
    s.CountsInv ∧ s.Counted [⟨5, 1⟩] := by
  refine ⟨fun slot o ho => ?_, fun slot o n l ho _ hl => ?_, fun c hc o ho _ => ?_⟩
  · obtain ⟨-, rfl⟩ := h slot o ho
    simp only [Line.Adds]
    decide
  · obtain ⟨rfl, rfl⟩ := h slot o ho
    match n with
    | 0 => simp [Order.line] at hl
    | 1 => simp [Order.line, remade] at hl; subst hl; decide
    | n + 2 => simp [Order.line, remade] at hl
  · obtain ⟨-, rfl⟩ := h c.slot o ho
    have : c = ⟨5, 1⟩ := by simpa using hc
    subst this
    decide

/-- `s` with the web unknown and a presented segment of the order in slot 5 at the blade, its check open, one behind. -/
def openChecked (s : State) (void : Option VoidCause) (inFlight : Nat) (st : OrderState) : State :=
  let s := withWork (holding s 5 { remade 0 with inFlight := inFlight, state := st }) []
    [seg 1 69280 void true, seg 2 69269 void false]
  { s with
    engine := { s.engine with webUnknown := true }
    cutter := { s.cutter with check := some ⟨1, 15⟩ } }

/-- ENTER RUN and RESUME with an open check: a void segment of an order with one more in flight or none, a live one, and
a mark strip. -/
theorem witness_a_purge_over_a_check :
    let ok := fun (s : State) (k : Byte) (r : Request) => (one s (ask k [])).Offers (ask k []) [] r
    let met := fun (s : State) (g : Segment) => s.engine.webUnknown = true ∧ s.cutter.check = some ⟨1, 15⟩ ∧ g.sid = 1
      ∧ s.web.queue = g :: s.web.queue.tail ∧ (∀ x ∈ s.web.queue.tail, x.sid ≠ g.sid) ∧ s.ShortOfBlade s.web.queue.tail
    let run := openChecked (readyToRun 254 false) (some .haltVoid)
    let res := openChecked (halted [.jam, .raster]) (some .jamVoid)
    let live := openChecked (halted [.jam]) none 1 .printing
    (ok (run 2 .printing) 0x29 .enterRun ∧ met (run 2 .printing) (seg 1 69280 (some .haltVoid) true)
        ∧ ∃ r, (run 2 .printing).mags.get .a = some r ∧ r.state ≠ .empty)
      ∧ (ok (res 1 .cancelling) 0x2C .resume ∧ met (res 1 .cancelling) (seg 1 69280 (some .jamVoid) true))
      ∧ (ok live 0x2C .resume ∧ met live (seg 1 69280 none true) ∧ live.CountsInv ∧ live.Counted [⟨5, 1⟩]
        ∧ live.order 5 = some (remade 0)) := by
  have met : ∀ s v n st, (openChecked s v n st).ShortOfBlade (openChecked s v n st).web.queue.tail →
      let t := openChecked s v n st
      let g := seg 1 69280 v true
      t.engine.webUnknown = true ∧ t.cutter.check = some ⟨1, 15⟩ ∧ g.sid = 1 ∧ t.web.queue = g :: t.web.queue.tail
        ∧ (∀ x ∈ t.web.queue.tail, x.sid ≠ g.sid) ∧ t.ShortOfBlade t.web.queue.tail :=
    fun s v n st h => ⟨rfl, rfl, rfl, rfl, by intro x hx; simp [openChecked, withWork] at hx; subst hx; simp [seg], h⟩
  have counts := counted_one (s := openChecked (halted [.jam]) none 1 .printing) (orderAt (by decide +kernel))
  refine ⟨⟨offers (by decide +kernel), met _ _ _ _ ?_, _, rfl, by decide⟩, ⟨offers (by decide +kernel), met _ _ _ _ ?_⟩,
    offers (by decide +kernel), met _ _ _ _ ?_, counts.1, counts.2, by decide +kernel⟩
  all_goals
    rintro x hx
    cases hx
    decide +kernel

/-- R111: the check abandoned at ENTER RUN moves no count, and its segment is cut to waste in the same event. -/
theorem test_a_purge_abandons_the_open_check :
    let s := openChecked (readyToRun 120 false) (some .haltVoid) 2 .printing
    let t := (after .enterRun (one s (ask 0x29 [])))
    t.cutter.check = none ∧ t.cutter.count = 120 ∧ t.web.queue = [seg 2 69269 (some .haltVoid) false]
      ∧ t.web.purge = some ⟨70000, 0⟩ ∧ t.lines.strobes = [.bladeAtTrail 10] ∧ t.sorter.transit = [] := by decide +kernel

/-! ### Raster calls -/

/-- RUN with the order, one call in this state, and its segment where it has one. -/
def calling (st : CallState) (sid : Option Nat) (early : Option DoneStatus) : State :=
  withWork (threaded (holding (inState .run) 5 (remade 0)) 100000) [call 65535 st sid early]
    (if sid.isSome then [seg 1 1270 none false] else [])

/-- The same with this miss count. -/
def missed (s : State) (n : Nat) : State := { s with expo := { s.expo with miss := n } }

theorem witness_ready_and_done :
    (calling .preparing none none).call 65535 = some (call 65535 .preparing none none)
      ∧ (calling .ready none none).call 65535 = some (call 65535 .ready none none)
      ∧ (calling .exposing (some 1) none).call 65535 = some (call 65535 .exposing (some 1) none)
      ∧ (calling .exposing (some 1) (some .fault)).call 65535 = some (call 65535 .exposing (some 1) (some .fault))
      ∧ (calling .awaitingDone (some 1) none).call 65535 = some (call 65535 .awaitingDone (some 1) none)
      ∧ (calling .ready none none).engine.resetAsserted = false := by decide +kernel

theorem witness_unmatched :
    (∀ c ∈ (calling .ready none none).expo.calls, c.tag ≠ 1) ∧ (calling .ready none none).due = Due.none := by
  decide +kernel

theorem witness_done_fault :
    (missed (calling .preparing none none) 1).expo.miss < 2
      ∧ (missed (calling .preparing none none) 1).call 65535 = some (call 65535 .preparing none none)
      ∧ (call 65535 .exposing (some 1) none).segment = some 1 ∧ (call 65535 .awaitingDone (some 1) none).segment = some 1
      ∧ (calling .exposing (some 1) none).web.queue.map Segment.sid = [1] := by decide +kernel

theorem witness_raster_timers :
    (missed (calling .preparing none none) 1).call 65535 = some (call 65535 .preparing none none)
      ∧ (missed (calling .preparing none none) 1).expo.miss < 2
      ∧ (missed (calling .preparing none none) 1).expo.unsent.any (PortRecord.isCallOf 65535) = false
      ∧ (missed (calling .preparing none none) 2).call 65535 = some (call 65535 .preparing none none)
      ∧ 2 ≤ (missed (calling .preparing none none) 2).expo.miss
      ∧ (missed (calling .preparing none none) 3).expo.miss ≤ 3
      ∧ (missed (calling .preparing none none) 2).engine.state = .run
      ∧ (missed (calling .preparing none none) 2).stop.causes = []
      ∧ (missed (calling .awaitingDone (some 1) none) 2).call 65535 = some (call 65535 .awaitingDone (some 1) none)
      ∧ (call 65535 .awaitingDone (some 1) none).segment = some 1 := by decide +kernel

/-- The third miss in every engine state, the cause there already or not, and a call that has not begun with the count
at 2 and at 3. -/
theorem witness_the_third_miss :
    let at' := fun (e : EngineState) (cs : List HaltCause) (c : CallState) (n : Nat) =>
      let s := missed (calling c (some 1) none) n
      { s with engine := { s.engine with state := e }, stop := { s.stop with causes := cs, ret := some .run } }
    (∀ e ∈ [EngineState.run, .paused, .recovery], (at' e [] .awaitingDone 2).engine.state = e
        ∧ (at' e [] .awaitingDone 2).stop.causes = [] ∧ 2 ≤ (at' e [] .awaitingDone 2).expo.miss)
      ∧ ((at' .halted [.jam] .awaitingDone 3).engine.state = .halted
        ∧ HaltCause.raster ∉ (at' .halted [.jam] .awaitingDone 3).stop.causes
        ∧ (at' .halted [.jam] .awaitingDone 3).stop.ret = some .run)
      ∧ HaltCause.raster ∈ (at' .halted [.raster] .awaitingDone 3).stop.causes
      ∧ (at' .setup [] .awaitingDone 2).engine.state = .setup
      ∧ ((at' .run [] .ready 2).call 65535 = some (call 65535 .ready (some 1) none) ∧ (at' .run [] .preparing 3).expo.miss = 3
        ∧ ∀ d ∈ (at' .run [] .ready 2).expo.calls, d.state ≠ .exposing)
      ∧ (at' .halted [.jam] .awaitingDone 3).call 65535 = some (call 65535 .awaitingDone (some 1) none) := by
  decide +kernel

/-- R81, R165: a DONE timer that expires in HALTED with the count at 2 adds RASTER to the causes. -/
theorem test_a_done_timer_in_halted :
    let s := missed (calling .awaitingDone (some 1) none) 2
    let s := { s with engine := { s.engine with state := .halted }, stop := { s.stop with causes := [.jam], ret := some .paused } }
    let t := after (.doneTimerExpired 65535) s
    t.stop.causes = [.jam, .raster] ∧ t.link.notices.getLast? = some (.halted .raster [.jam, .raster] .paused none) := by
  decide +kernel

/-- A READY call behind a segment whose trail stands just at its gap, with paper for exactly this one. -/
def atHead (remaining : Nat) (trail : Int) : State :=
  let o := { remade 0 with lines := [{ threeCopies with queued := 2, owed := 1, onWeb := 1 }] }
  withWork (threaded (holding (inState .run) 5 o) remaining) [call 9 .ready none none] [seg 0 (trail + 1270) none false]

theorem witness_exposure_begins :
    let c := call 9 .ready none none
    let free := fun s : State => s.engine.state = .run ∧ (∀ d ∈ s.expo.calls, d.state ≠ .exposing) ∧ s.expo.trailing = none
      ∧ (∀ g, s.web.queue.getLast? = some g → (g.gap : Int) ≤ g.lead - g.length) ∧ s.web.queue.length < 192
    let paper := fun s : State => s.mags.change = .idle ∧ ∃ (m : MagId) (r : MagRec), s.mags.selector = some m
      ∧ s.mags.get m = some r ∧ r.state = .active ∧ r.width = c.width ∧ c.length + c.gap ≤ r.remaining
    (∀ past d later, (calling .preparing none none).expo.calls = past ++ d :: later →
        (∀ e ∈ past, e.state = .exposing ∨ e.state = .awaitingDone) → d.state ≠ .ready)
      ∧ ((atHead 1290 20).expo.calls = [] ++ c :: [] ∧ c.state = .ready ∧ free (atHead 1290 20) ∧ paper (atHead 1290 20)
        ∧ ∃ o l, (atHead 1290 20).order 5 = some o ∧ o.state = .printing ∧ o.line 1 = some l ∧ 0 < l.queued ∧ 0 < l.owed
          ∧ o.owedTotal = 1)
      ∧ ((atHead 1289 20).expo.calls = [] ++ c :: [] ∧ free (atHead 1289 20) ∧ ¬ paper (atHead 1289 20))
      ∧ ((atHead 1290 19).expo.calls = [] ++ c :: [] ∧ ¬ free (atHead 1290 19)) := by
  refine ⟨fun past d later h _ => ?_, ⟨rfl, rfl, ?_, ⟨rfl, .a, _, rfl, rfl, rfl, rfl, by decide⟩,
    _, _, rfl, rfl, rfl, by decide, by decide, by decide⟩, ⟨rfl, ?_, ?_⟩, rfl, ?_⟩
  · have hc : (calling .preparing none none).expo.calls = [call 65535 .preparing none none] := rfl
    rw [hc] at h
    cases past with
    | nil => simp only [List.nil_append, List.cons.injEq] at h; rw [← h.1]; decide
    | cons x xs => simp at h
  · decide +kernel
  · decide +kernel
  · rintro ⟨-, m, r, hm, hr, -, -, h⟩
    cases hm
    cases hr
    revert h
    decide
  · decide +kernel

/-- A READY call behind an exposing one: the head is not free. The clause of a refused call has no premise on the port. -/
theorem witness_a_call_behind_an_exposing_one :
    let s := atHead 1290 20
    let t := { s with expo := { s.expo with calls := [call 8 .exposing (some 5) none, call 9 .ready none none] } }
    t.engine.resetAsserted = false ∧ t.expo.calls = [call 8 .exposing (some 5) none] ++ call 9 .ready none none :: []
      ∧ (call 8 .exposing (some 5) none).state = .exposing ∧ ¬ (∀ d ∈ t.expo.calls, d.state ≠ .exposing) := by
  decide +kernel

/-- R70: the CALL CANCEL takes an unsent FRAME CALL of its tag off the port, not one that is being sent, nor another's. -/
theorem test_a_cancel_of_an_unsent_call :
    let r := fun tag => PortRecord.frameCall tag 77 .print .w127 1270 ⟨820, 640, 700⟩
    let port := fun (busy : Bool) (p : List PortRecord) =>
      let s := calling .preparing none none
      (({ s with expo := { s.expo with port := p, portBusy := busy } } : State).withdraw fun _ => true).expo.port
    port false [r 8, r 65535] = [r 8] ∧ port true [r 65535] = [r 65535, .callCancel 65535]
      ∧ port false [r 8] = [r 8, .callCancel 65535] := by decide +kernel

/-- A READY call whose width the roll of 127 mm does not suit, in front of another. -/
def refusedCall (second : CallState) (width : Width) : State :=
  let s := threaded (holding (inState .run) 5 (remade 0)) 100000
  withWork s [{ call 9 .ready none none with width := .w152 }, { call 10 second none none with width := width }] []

theorem witness_a_call_behind_a_refused_one :
    let c := { call 9 .ready none none with width := .w152 }
    let d := fun st w => { call 10 st none none with width := w }
    let paper := fun (s : State) (c : Call) => s.mags.change = .idle ∧ ∃ (m : MagId) (r : MagRec),
      s.mags.selector = some m ∧ s.mags.get m = some r ∧ r.state = .active ∧ r.width = c.width
        ∧ c.length + c.gap ≤ r.remaining
    let s := refusedCall .ready .w127
    (s.expo.calls = [] ++ c :: [d .ready .w127] ∧ c.state = .ready ∧ (∀ e ∈ [] ++ [d .ready .w127], e.tag ≠ c.tag)
        ∧ ¬ paper s c ∧ paper s (d .ready .w127))
      ∧ ((refusedCall .preparing .w127).expo.calls = [] ++ c :: [d .preparing .w127])
      ∧ ((refusedCall .ready .w152).expo.calls = [] ++ c :: [d .ready .w152]
        ∧ ¬ paper (refusedCall .ready .w152) (d .ready .w152)) := by
  refine ⟨⟨rfl, rfl, by decide, ?_, rfl, .a, _, rfl, rfl, rfl, rfl, by decide⟩, rfl, rfl, ?_⟩
  all_goals
    rintro ⟨-, m, r, hm, hr, -, h, -⟩
    cases hm
    cases hr
    revert h
    decide

/-- The trail of segment 1 at the exposure line, or one unit short of it, with the record of it set. -/
def ending (lead : Int) (cs : List Call) : State :=
  let s := withWork (inState .run) cs [seg 1 lead none false]
  { s with expo := { s.expo with trailing := some 1 } }

theorem witness_exposure_ends :
    let segs := fun s : State => s.segment 1
    let c := call 9 .exposing (some 1)
    (segs (ending 1270 [c none]) = some (seg 1 1270 none false) ∧ (ending 1270 [c none]).expo.trailing = some 1
        ∧ (ending 1270 [c none]).expo.exposingSegment 1 = some (c none))
      ∧ ((ending 1270 [c (some .good)]).expo.exposingSegment 1 = some (c (some .good))
        ∧ (c (some .good)).early ≠ none)
      ∧ (ending 1270 []).expo.exposingSegment 1 = none
      ∧ (segs (ending 1269 [c none]) = some (seg 1 1269 none false)
        ∧ (seg 1 1269 none false).lead - ((seg 1 1269 none false).length : Int) < 0) := by decide +kernel

theorem witness_raster_port :
    (inState .run).expo.rx = none ∧ (inState .run).engine.resetAsserted = false ∧ (0x10#8 ≠ 0x11#8 ∧ 0x10#8 ≠ 0x12#8)
      ∧ (2#8 ≠ 0 ∧ 2#8 ≠ 1) ∧ be16 0 1 < 2 ∧ 258 < be16 1 3 ∧ be16 0 3 ≠ 4 ∧ be16 0 4 ≠ 5
      ∧ be16 0 0 ≠ (crc (frameCore 0x11 0 (b2 9))).toNat
      ∧ ({ (inState .run).expo with port := [.callCancel 9], portBusy := true } : Exposure).port = [.callCancel 9]
      ∧ (inState .run).expo.portBusy = false := by decide +kernel

/-- A READY of a length 3, then the good READY of the call: the receiver hunts on behind the kind, the call goes to READY
and, the head being free, begins exposing (R70, R177, R74, R76). -/
theorem test_a_wrong_length_is_dropped_at_the_kind :
    let s := calling .preparing none none
    let t := after (.rasterFrameDiscard ([0xA5, 0, 3, 0x11] ++ frameBytes 0x11 7 (b2 65535)) false) s
    t.expo.calls.map Call.state = [.exposing] := by decide +kernel

/-! ### Web, paper and cutter -/

/-- A running web with one segment, and this much paper on the active roll. -/
def moving (lead : Int) (remaining : Nat) : State :=
  let s := withWork (threaded (inState .run) remaining) [] [seg 1 lead none false]
  { s with web := { s.web with transport := .running }, lines := { s.lines with transportDrive := true } }

/-- A running web with this segment alone, a call or none, and this much paper. -/
def rolling (g : Segment) (cs : List Call) (remaining : Nat) : State :=
  let s := withWork (threaded (holding (inState .run) 5 (remade 0)) remaining) cs [g]
  { s with web := { s.web with transport := .running }, lines := { s.lines with transportDrive := true } }

/-- The same with a purge that has come this far, and this queue. -/
def rollingPurge (moved : Nat) (gs : List Segment) : State :=
  let s := rolling (seg 1 0 none false) [] 100000
  { s with web := { s.web with queue := gs, purge := some ⟨70000, moved⟩ } }

theorem witness_encoder :
    let s := moving 69014 50255
    let e := fun (s : State) (d : Nat) (x : Segment) => x.lead - (x.length : Int) + (d : Int) - (s.web.stations.cut : Int)
    let short := fun (s : State) (d : Nat) => ∀ x, s.web.queue.head? = some x → e s d x < 0
    let still := fun s : State => s.expo.calls = [] ∧ s.expo.trailing = none
    (inState .run).web.transport ≠ .running
      ∧ (s.web.transport = .running ∧ still s ∧ s.web.purge = none ∧ s.cutter.check = none ∧ short s 255
        ∧ s.mags.selector = some .a ∧ ∃ r, s.mags.get .a = some r ∧ r.state = .active ∧ r.low ≤ r.remaining - 255
          ∧ 0 < r.remaining - 255)
      ∧ ((rollingPurge 0 []).web.queue = [] ∧ (rollingPurge 69745 []).web.purge = some ⟨70000, 69745⟩
        ∧ short (rollingPurge 0 [seg 1 0 none false]) 255)
      ∧ (∃ r, (moving 0 255).mags.get .a = some r ∧ r.state = .active ∧ r.remaining ≤ 255
        ∧ (moving 0 255).link.notices.length ≤ 30)
      ∧ ∃ r, (moving 0 50254).mags.get .a = some r ∧ r.remaining - 255 < r.low ∧ r.lowReported = false := by
  refine ⟨by decide +kernel, ⟨rfl, ⟨rfl, rfl⟩, rfl, rfl, ?_, rfl, _, rfl, rfl, by decide, by decide⟩,
    ⟨rfl, rfl, ?_⟩, ⟨_, rfl, rfl, by decide, by decide⟩, _, rfl, by decide, rfl⟩ <;> decide +kernel

/-- An encoder event with no ACTIVE roll, and one with an ACTIVE roll that stays at its low threshold (R35). -/
theorem witness_encoder_without_paper :
    (State.reset.PaperMoved 255 State.reset.mags) ∧ (moving 0 255).mags.get .a ≠ none
      ∧ (moving 69014 50255).PaperMoved 255 ((moving 69014 50255).mags.put .a
          (some ⟨.active, .w127, 50000, 50000, false, ⟨820, 640, 700⟩, ⟨-2, -3, 1⟩⟩)) :=
  ⟨.inr ⟨fun m r h => (by cases h), rfl⟩, by decide, .inl ⟨.a, _, rfl, rfl, rfl, .inl (by decide), by decide, rfl⟩⟩

theorem witness_encoder_exposures :
    let ends := { rolling (seg 1 1269 none false) [call 9 .exposing (some 1) none] 100000 with
      expo := { State.reset.expo with calls := [call 9 .exposing (some 1) none], trailing := some 1 } }
    let begins := rolling (seg 1 1289 none false) [call 9 .ready none none] 100000
    (ends.expo.trailing = some 1 ∧ ends.segment 1 = some (seg 1 1269 none false)
        ∧ (0 : Int) ≤ 1269 - 1270 + 1 ∧ ends.expo.exposingSegment 1 = some (call 9 .exposing (some 1) none))
      ∧ (begins.expo.calls = [call 9 .ready none none] ∧ begins.expo.trailing = none ∧ begins.web.queue.length < 192
        ∧ (∀ x, begins.web.queue.getLast? = some x → (x.gap : Int) ≤ x.lead - (x.length : Int) + (1 : Int))
        ∧ begins.mags.paperTest .w127 1270 20 = true) := by decide +kernel

/-- The front segment with an open check, the transport running. -/
def checking : State :=
  let s := moving 69280 100000
  { s with web := { s.web with queue := [seg 1 69280 none true] }, cutter := { s.cutter with check := some ⟨1, 15⟩ } }

theorem witness_encoder_blade :
    let e := fun (s : State) (d : Nat) (x : Segment) => x.lead - (x.length : Int) + (d : Int) - (s.web.stations.cut : Int)
    let at' := fun (k : SegKind) (lead : Int) => { seg 1 lead none false with kind := k }
    let marked := fun (s : State) (m : Nat) => { s with cutter := { s.cutter with mark := some ⟨m, false⟩ } }
    let s := rolling (at' .print 69269) [] 100000
    (e s 1 (at' .print 69269) = 0 ∧ (at' .print 69269).presented = false ∧ s.cutter.check = none ∧ s.web.purge = none)
      ∧ ((marked s 14).moveMark 1).cutter.mark = some ⟨15, false⟩ ∧ (marked s 14).cutter.markWindow = 15
      ∧ e s 17 (at' .print 69269) = 16
      ∧ (({ at' .paperEnd 69269 with copy := none } : Segment).kind = .paperEnd)
      ∧ (checking.cutter.check = some ⟨1, 15⟩ ∧ checking.web.queue = [seg 1 69280 none true]
        ∧ e checking 5 (seg 1 69280 none true) = 15 ∧ e checking 6 (seg 1 69280 none true) = 16) := by decide +kernel

/-- The web running with `g` at the front and a segment behind it that still exposes. -/
def front (g : Segment) (purge : Option Purge) (mark : Option Mark) (check : Option Check) : State :=
  let s := rolling g [call 9 .exposing (some 2) none] 100000
  { s with
    web := { s.web with queue := [g, seg 2 500 none false], purge := purge }
    cutter := { s.cutter with mark := mark, check := check }
    expo := { s.expo with trailing := some 2 } }

/-- A segment at the blade with one behind it that exposes still: a purge that cuts each kind to waste, a print of a
printing order among them; a check that closes, opens or is missed at once; an open check that stays or is missed. -/
theorem witness_encoder_behind :
    let d : Nat := 1
    let at' := fun (k : SegKind) (lead : Int) (shown : Bool) => { seg 1 lead none shown with kind := k }
    let bare := fun (k : SegKind) => { at' k 69269 false with copy := none }
    let go := some ⟨70000, 0⟩
    let e := fun (s : State) (x : Segment) => x.lead - (x.length : Int) + (d : Int) - (s.web.stations.cut : Int)
    let met := fun (s : State) (x : Segment) => s.engine.resetAsserted = false ∧ s.web.transport = .running
      ∧ s.HeadQuiet d ∧ s.web.queue = x :: [seg 2 500 none false] ∧ e s (seg 2 500 none false) < 0
      ∧ (seg 2 500 none false).sid ≠ x.sid ∧ 0 ≤ e s x
    let p := at' .print 69269 false
    (met (front p go none none) p ∧ (front p go none none).CountsInv ∧ (front p go none none).Counted [⟨5, 1⟩]
        ∧ (front p go none none).order 5 = some (remade 0) ∧ (remade 0).state = .printing ∧ (remade 0).owedTotal = 0
        ∧ p.copy = some ⟨5, 1⟩ ∧ p.void = none ∧ (front p go none none).cutter.check = none)
      ∧ met (front (bare .paperEnd) go none none) (bare .paperEnd)
      ∧ met (front (bare .markStrip) go none none) (bare .markStrip)
      ∧ (met (front p none (some ⟨14, false⟩) none) p ∧ e (front p none none none) p = 0
        ∧ (front p none (some ⟨14, false⟩) none).cutter.markWindow = 15
        ∧ ((front p none (some ⟨14, false⟩) none).moveMark d).cutter.mark = some ⟨15, false⟩)
      ∧ (met (front (at' .index 69285 false) none none none) (at' .index 69285 false)
        ∧ e (front (at' .index 69285 false) none none none) (at' .index 69285 false) = 16)
      ∧ (met (front (at' .print 69284 true) none none (some ⟨1, 15⟩)) (at' .print 69284 true)
        ∧ e (front (at' .print 69284 true) none none (some ⟨1, 15⟩)) (at' .print 69284 true) = 15)
      ∧ (met (front (at' .print 69285 true) none none (some ⟨1, 15⟩)) (at' .print 69285 true)
        ∧ e (front (at' .print 69285 true) none none (some ⟨1, 15⟩)) (at' .print 69285 true) = 16) := by
  intro d at' bare go e met p
  have quiet : ∀ g pu m c, g.sid = 1 → (front g pu m c).HeadQuiet d := fun g pu m c hg =>
    .inr ⟨2, seg 2 500 none false, rfl, by
      simp only [State.segment, front, List.find?_cons, hg]; rfl, by decide⟩
  have counts := counted_one (s := front p go none none) (orderAt (by decide +kernel))
  refine ⟨⟨⟨rfl, rfl, quiet _ _ _ _ rfl, rfl, ?_, ?_, ?_⟩, counts.1, counts.2, ?_⟩,
    ⟨rfl, rfl, quiet _ _ _ _ rfl, rfl, ?_⟩, ⟨rfl, rfl, quiet _ _ _ _ rfl, rfl, ?_⟩,
    ⟨⟨rfl, rfl, quiet _ _ _ _ rfl, rfl, ?_⟩, ?_⟩, ⟨⟨rfl, rfl, quiet _ _ _ _ rfl, rfl, ?_⟩, ?_⟩,
    ⟨⟨rfl, rfl, quiet _ _ _ _ rfl, rfl, ?_⟩, ?_⟩, ⟨⟨rfl, rfl, quiet _ _ _ _ rfl, rfl, ?_⟩, ?_⟩⟩
  all_goals decide +kernel

/-- A changeover to B under way, with a segment at this trail. -/
def changing (ch : Changeover) (trail : Int) : State :=
  let s := withWork (threaded (inState .run) 49020) [] [seg 1 (trail + 1270) none false]
  { s with mags := { s.mags with
      magB := some ⟨.loaded, .w152, 1800000, 50000, false, ⟨820, 640, 700⟩, ⟨0, 0, 0⟩⟩, change := ch } }

theorem witness_changeover :
    let clear := fun s : State => s.expo.calls = [] ∧ s.expo.trailing = none ∧ s.web.queue.length < 192
      ∧ ∀ g, s.web.queue.getLast? = some g → 0 ≤ g.lead - (g.length : Int)
    let p := changing (.pending .b (some .a))
    let t := changing (.threading .b (some .a)) 0
    ((p 0).mags.change = .pending .b (some .a) ∧ (∃ r, (p 0).mags.get .b = some r) ∧ clear (p 0)
        ∧ ∃ q, (p 0).mags.get .a = some q ∧ q.state = .active)
      ∧ ¬ clear (p (-1))
      ∧ (t.mags.change = .threading .b (some .a) ∧ (∃ r, t.mags.get .b = some r) ∧ t.engine.state = .run
        ∧ t.stop.causes = [] ∧ t.expo.calls = [])
      ∧ (∀ e : EngineState, (State.mags { t with engine := { t.engine with state := e } }).change
        = .threading .b (some .a))
      ∧ (inState .run).mags.change = .idle := by
  refine ⟨⟨rfl, ⟨_, rfl⟩, ?_, _, rfl, rfl⟩, ?_, ⟨rfl, ⟨_, rfl⟩, rfl, rfl, rfl⟩, fun _ => rfl, rfl⟩ <;> decide +kernel

theorem witness_mark_sensed :
    (inState .run).web.transport ≠ .running ∧ ((moving 0 255).web.transport = .running ∧ (moving 0 255).cutter.check = none)
      ∧ (checking.web.transport = .running ∧ checking.web.queue = seg 1 69280 none true :: []
        ∧ checking.cutter.check = some ⟨1, 15⟩ ∧ (seg 1 69280 none true).sid = 1) := by decide +kernel

/-- The same blade in another engine state, with a recovery record and items in transit. -/
def bladeIn (e : EngineState) (r : Recovery) (items : Nat) (count : Nat) (mark : Option Mark) : State :=
  let s := atBlade count mark
  { s with
    engine := { s.engine with state := e }
    cutter := { s.cutter with recovery := r }
    sorter := { s.sorter with transit := List.replicate items ⟨.print, ⟨5, 1⟩, some .jamVoid, 1, .reject⟩ } }

theorem witness_mark_check :
    let g := seg 0 69280 none true
    let idle : Recovery := (inState .run).cutter.recovery
    let good := fun s : State => s.web.queue = [g] ∧ g.copy = some ⟨5, 1⟩ ∧ g.presented = true ∧ g.kind = .print
      ∧ (s.engine.state = .run ∨ s.engine.state = .paused)
    (good (atBlade 247 none) ∧ (atBlade 247 none).sorter.transit.length < 8)
      ∧ (good (atBlade 0 (some ⟨0, false⟩)) ∧ (atBlade 0 (some ⟨0, false⟩)).cutter.mark ≠ none)
      ∧ good (atBlade 127 none) ∧ good (atBlade 128 (some ⟨0, false⟩)) ∧ (atBlade 0 none).sorter.transit = []
      ∧ (good (bladeIn .paused idle 7 248 none) ∧ (bladeIn .paused idle 7 248 none).sorter.transit.length < 8
        ∧ 247 < (bladeIn .paused idle 7 248 none).cutter.count ∧ (bladeIn .paused idle 7 248 none).stop.causes = [])
      ∧ (good (bladeIn .run idle 8 247 none) ∧ 8 ≤ (bladeIn .run idle 8 247 none).sorter.transit.length) := by
  decide +kernel

theorem witness_mark_check_in_recovery :
    let r := fun remaining checked : Nat => (⟨.short, 8, remaining, checked, 9, .paused, false⟩ : Recovery)
    let s := fun remaining checked : Nat => bladeIn .recovery (r remaining checked) 7 40 (some ⟨0, false⟩)
    let strip := { seg 0 69280 none true with kind := .markStrip, copy := none }
    ((s 1 1023).web.queue = [seg 0 69280 none true] ∧ (seg 0 69280 none true).copy ≠ none
        ∧ (s 1 1023).sorter.transit.length < 8 ∧ (s 1 1023).engine.state = .recovery ∧ (s 1 1023).stop.causes = []
        ∧ (s 1 1023).cutter.mark ≠ none)
      ∧ (r 1 1023).remaining - 1 = 0 ∧ (r 2 1022).remaining - 1 ≠ 0 ∧ (r 2 1022).checked + 1 < 1024
      ∧ 1024 ≤ (r 2 1023).checked + 1 ∧ strip.kind = .markStrip ∧ strip.copy = none ∧ strip.presented = true := by
  decide +kernel

/-- The check of a print with others behind it, the first just short of the blade or just at it; a jam with a print
behind; a strip in recovery with a call that exposes, or with none. -/
theorem witness_mark_check_with_others_behind :
    let g := seg 0 69280 none true
    let strip := { g with kind := .markStrip, copy := none }
    let behind := fun (s : State) (x : Segment) (trail : Int) => { s with web := { s.web with
      queue := [x, seg 1 (trail + 1270) none false, seg 2 1270 none false] } }
    let s := behind (atBlade 247 none) g 67999
    let j := behind (bladeIn .run (inState .run).cutter.recovery 8 247 none) g 68000
    let r := behind (bladeIn .recovery ⟨.short, 8, 1, 1023, 9, .paused, false⟩ 7 40 (some ⟨0, false⟩)) strip 67999
    (s.web.queue = g :: [seg 1 69269 none false, seg 2 1270 none false] ∧ s.web.stations.cut = 68000
        ∧ (∀ x ∈ s.web.queue.tail, x.sid ≠ g.sid) ∧ s.ShortOfBlade s.web.queue.tail ∧ s.engine.state = .run
        ∧ g.copy = some ⟨5, 1⟩ ∧ g.presented = true ∧ s.sorter.transit.length < 8)
      ∧ (j.web.queue = g :: seg 1 69270 none false :: [seg 2 1270 none false] ∧ 8 ≤ j.sorter.transit.length
        ∧ j.engine.state = .run ∧ (seg 1 69270 none false).presented = false
        ∧ (j.web.stations.cut : Int) ≤ 69270 - (1270 : Int))
      ∧ (r.web.queue = strip :: [seg 1 69269 none false, seg 2 1270 none false] ∧ r.ShortOfBlade r.web.queue.tail
        ∧ (∀ x ∈ r.web.queue.tail, x.sid ≠ strip.sid) ∧ r.engine.state = .recovery ∧ r.stop.causes = []
        ∧ r.cutter.mark ≠ none ∧ r.expo.calls = []) := by
  refine ⟨⟨rfl, rfl, by decide +kernel, ?_, by decide +kernel⟩, by decide +kernel, rfl, ?_, by decide +kernel⟩
  all_goals
    rintro x hx
    cases hx
    decide +kernel

/-- First fit (R129): bin 1 holds 99 of 100 units and the print has 2, so it goes to bin 2, and to bin 2 again when
neither bin has room. -/
theorem test_first_fit :
    let o := { remade 0 with bins := [⟨0, 0⟩, ⟨1, 1⟩] }
    let s := fun used : Nat =>
      let s := holding sized 5 o
      { s with sorter := { s.sorter with
          bins := (s.sorter.bins.set 0 ⟨.owned, some 5, some 0, 99, 0, true⟩).set 1 ⟨.owned, some 5, some 1, used, 1, true⟩ } }
    ((s 0).liveDest o 2, (s 100).liveDest o 2, (s 0).liveDest o 1) = (.bin 1, .bin 1, .bin 0)
      ∧ (s 0).liveDest { o with bulk := true } 2 = .tray := by decide +kernel

/-- Section 6.4: a recovery that fails at the 1,024th mark goes to HALTED with CUTTER, the count at 255. -/
theorem test_a_recovery_that_fails :
    let u := (bladeIn .recovery ⟨.full, 128, 2, 1023, 9, .run, false⟩ 0 40 none).closeCheck State.serveBlade false
      (seg 0 69280 none true)
    u.engine.state = .halted ∧ u.cutter.count = 255 ∧ u.stop.causes = [.cutter] ∧ u.stop.ret = some .run
      ∧ u.cutter.recovery.kind = .none := by decide +kernel

/-- R96, R134: the print behind the one whose failed check halts the engine is presented in the same event; its check
stays open and nothing more goes to the Sorter (log entry 23). -/
theorem test_presentation_behind_a_halt :
    let s := bladeIn .recovery ⟨.full, 128, 2, 1023, 9, .run, false⟩ 0 40 none
    let t := { s with web := { s.web with queue := [seg 0 71000 none true, seg 1 69700 none false] } }
    let u := t.closeCheck State.serveBlade false (seg 0 71000 none true)
    u.web.queue = [seg 1 69700 none true] ∧ u.cutter.check = some ⟨1, 15⟩ ∧ u.engine.state = .halted
      ∧ u.sorter.transit.length = 1 := by decide +kernel

/-- RECOVERY with room for a strip, 40 units of paper and 1,023 strips entered. -/
def recovering : State :=
  let s := withWork (threaded (inState .recovery) 40) [] [seg 1 1270 none false]
  { s with cutter := { s.cutter with recovery := ⟨.full, 128, 1, 1000, 1023, .run, false⟩ } }

/-- A purge that has come this far of 70,000 units. -/
def purging (moved : Nat) (gs : List Segment) : State :=
  let s := withWork (inState .run) [] gs
  { s with web := { s.web with purge := some ⟨70000, moved⟩ } }

theorem witness_strips_and_purge :
    (recovering.engine.state = .recovery ∧ recovering.cutter.recovery.entered < 1024
        ∧ recovering.mags.selector = some .a ∧ (∃ r, recovering.mags.get .a = some r ∧ r.state = .active
          ∧ 40 ≤ r.remaining) ∧ recovering.mags.change = .idle ∧ recovering.web.queue.length < 192
        ∧ ∀ g, recovering.web.queue.getLast? = some g → 0 ≤ g.lead - (g.length : Int))
      ∧ (inState .run).engine.state ≠ .recovery
      ∧ ((purging 70000 []).web.purge = some ⟨70000, 70000⟩ ∧ (70000 : Int) ≤ ((70000 : Nat) : Int)
        ∧ (purging 70000 []).web.queue = [])
      ∧ (inState .run).web.purge = none ∧ (purging 70000 [seg 1 0 none false]).web.queue ≠ []
      ∧ ∃ p, (purging 69999 []).web.purge = some p ∧ (p.moved : Int) < p.target := by
  refine ⟨⟨rfl, by decide, rfl, ⟨_, rfl, rfl, by decide⟩, rfl, by decide, ?_⟩, ?_, ?_, rfl, by decide, _, rfl, by decide⟩
    <;> decide +kernel

theorem witness_strips_ask_for_paper :
    let s := fun (a b : Option MagRec) (entered : Nat) => { recovering with
      mags := { recovering.mags with magA := a, magB := b, selector := none }
      cutter := { recovering.cutter with recovery := { recovering.cutter.recovery with entered := entered } } }
    let roll : MagRec := ⟨.loaded, .w152, 1800000, 50000, false, ⟨820, 640, 700⟩, ⟨0, 0, 0⟩⟩
    let standby := fun (s : State) (m : MagId) (r : MagRec) =>
      s.mags.selector ≠ some m ∧ s.mags.get m = some r ∧ r.state = .loaded
    ((s (some roll) (some roll) 1024).engine.state = .recovery ∧ (s (some roll) (some roll) 1024).mags.change = .idle
        ∧ standby (s (some roll) (some roll) 1024) .a roll)
      ∧ (standby (s none (some roll) 1024) .b roll ∧ (s none (some roll) 1024).mags.get .a = none)
      ∧ ((s none none 0).mags.get .a = none ∧ (s none none 0).mags.get .b = none)
      ∧ (after .markStripEntry (s (some roll) (some roll) 1024)).mags.change = .threading .a none := by
  decide +kernel

/-! ### Sorter and Stop Control -/

/-- An order with two copies in the transit list, the older one live or void, bound for bin 1 or the reject chute. -/
def falling (void : Option VoidCause) (used : Nat) (more : List Item) : State :=
  let l := { threeCopies with queued := 1, onWeb := 2, remakesUsed := used }
  let o := { order1001 .printing 2 with lines := [l], bins := [⟨0, 0⟩] }
  let s := holding (inState .run) 5 o
  { s with sorter := { s.sorter with
      transit := ⟨.print, ⟨5, 1⟩, void, 3, if void.isSome then .reject else .bin 0⟩ :: more
      bins := s.sorter.bins.set 0 ⟨.owned, some 5, some 0, 0, 6, false⟩
      timer := some 3000, reject := 65535 } }

theorem witness_drops :
    let item : Item := ⟨.print, ⟨5, 1⟩, none, 3, .bin 0⟩
    let ok := fun (s : State) (it : Item) (ts : List Item) => s.engine.resetAsserted = false
      ∧ s.sorter.transit = it :: ts ∧ ∃ o l, s.order it.copy.slot = some o ∧ o.state = .printing
        ∧ o.line it.copy.line = some l ∧ 0 < l.onWeb ∧ 2 ≤ o.inFlight
    (ok (falling none 2 [item]) item [item] ∧ item.dest ≠ .reject ∧ dropPlace item.dest = some (.bin 0))
      ∧ ok (falling none 3 []) item [] ∧ DropPoint.bin 4 ≠ item.dest
      ∧ dropPlace (.bin 4) = some (.bin 4)
      ∧ ok (falling (some .cutterMiss) 0 []) ⟨.print, ⟨5, 1⟩, some .cutterMiss, 3, .reject⟩ []
      ∧ DropPoint.tray ≠ .reject := by
  refine ⟨⟨⟨rfl, rfl, _, _, rfl, rfl, rfl, ?_, ?_⟩, ?_, rfl⟩, ⟨rfl, rfl, _, _, rfl, rfl, rfl, ?_, ?_⟩, ?_, rfl,
    ⟨rfl, rfl, _, _, rfl, rfl, rfl, ?_, ?_⟩, ?_⟩ <;> decide

/-- This order in slot 5 with bin 1, which reads occupied or empty, and this item in transit. -/
def lastOf (o : Order) (it : Item) (occupied : Bool) : State :=
  let s := holding priced 5 o
  { s with sorter := { s.sorter with
      transit := [it], bins := s.sorter.bins.set 0 ⟨.owned, some 5, some 0, 0, 6, occupied⟩, timer := some 3000 } }

/-- The drop of the last item in flight, for each state of its order: collected, ending, or staying; and the last copy
delivered, every bin of the order reading empty or occupied. -/
theorem witness_last_drops :
    let void : Item := ⟨.print, ⟨5, 1⟩, some .cancelVoid, 3, .reject⟩
    let live : Item := ⟨.print, ⟨5, 1⟩, none, 3, .bin 0⟩
    let whole := { order1001 .printing 1 with
      lines := [{ threeCopies with queued := 0, onWeb := 1, delivered := 2 }], bins := [⟨0, 0⟩] }
    let gave := { order1001 .cancelling 1 with lines := whole.lines }
    let ok := fun (o : Order) (it : Item) => (lastOf o it true).sorter.transit = [it] ∧ (lastOf o it true).order 5 = some o
      ∧ o.inFlight ≤ 1 ∧ (lastOf o it true).engine.resetAsserted = false
    (ok (order1001 .ready 1) void ∧ (order1001 .ready 1).bins = [] ∧ (order1001 .ready 1).trayHeld = false)
      ∧ ok (order1001 .cancelled 1) void ∧ ok (order1001 .attention 1) void
      ∧ (ok (order1001 .cancelling 1) void ∧ (∀ l ∈ (order1001 .cancelling 1).lines, l.delivered = 0))
      ∧ (ok gave void ∧ ∃ l ∈ gave.lines, l.delivered ≠ 0)
      ∧ (ok whole live ∧ whole.line 1 = some { threeCopies with queued := 0, onWeb := 1, delivered := 2 }
        ∧ (lastOf whole live false).keptBins 5 whole = [] ∧ (lastOf whole live true).keptBins 5 whole = [⟨0, 0⟩])
      ∧ ((after (.dropEvent .reject) (lastOf (order1001 .ready 1) void true)).order 5 = none
        ∧ (after (.dropEvent .reject) (lastOf (order1001 .ready 1) void true)).link.notices.getLast?
          = some (.orderCollected 1001))
      ∧ ((after (.dropEvent (.bin 0)) (lastOf whole live false)).order 5 = none
        ∧ ((after (.dropEvent (.bin 0)) (lastOf whole live true)).order 5).map Order.state = some .ready)
      ∧ (remade 3).line 1 = some { threeCopies with queued := 2, onWeb := 1, remakesUsed := 3 }
      ∧ Line.Adds { threeCopies with queued := 2, onWeb := 1, remakesUsed := 3 } := by
  simp only [Line.Adds]
  decide +kernel

theorem witness_misroutes :
    let other := { order1001 .ready 0 with number := 7, bins := [⟨4, 0⟩] }
    let s := holding (falling (some .cancelVoid) 0 []) 6 other
    let t := { s with sorter := { s.sorter with bins := s.sorter.bins.set 4 ⟨.ready, some 6, some 0, 5, 0, true⟩ } }
    (t.sorter.transit = [⟨.print, ⟨5, 1⟩, some .cancelVoid, 3, .reject⟩] ∧ (t.place (.bin 4)).ownedBy 6 = true
        ∧ dropPlace (.bin 4) = some (.bin 4) ∧ t.order 6 = some other ∧ (6 : Slot) ≠ 5)
      ∧ (falling none 2 []).place (.bin 4) = ⟨.free, none, none, 0, 0, false⟩ ∧ dropPlace .reject = none
      ∧ ((after (.dropEvent (.bin 4)) t).order 6).map Order.disturbed = some true
      ∧ ((after (.dropEvent (.bin 4)) t).place (.bin 4)).used = 8
      ∧ ((after (.dropEvent (.bin 4)) t).place (.bin 4)).state = .ready := by decide +kernel

theorem witness_drop_with_nothing : (inState .run).sorter.transit = [] ∧ (inState .run).due = Due.none := ⟨rfl, rfl⟩

/-- Bin 24 in a state, of an order in slot 5 that has only it. -/
def placed (st : BinState) (o : Order) (owner : Option Slot) : State :=
  let s := holding (inState .run) 5 o
  { s with sorter := { s.sorter with bins := s.sorter.bins.set 23 ⟨st, owner, none, 65535, 0, st != .free⟩ } }

theorem witness_presence :
    let only := { order1001 .ready 0 with bins := [⟨23, 0⟩] }
    let more := { order1001 .ready 0 with bins := [⟨23, 0⟩, ⟨0, 1⟩] }
    let p := { order1001 .printing 1 with bins := [⟨23, 0⟩] }
    ((placed .free p none).place (.bin 23)).state = .free
      ∧ ((placed .owned p (some 5)).place (.bin 23)).state = .owned
      ∧ ((placed .owned p (some 5)).place (.bin 23)).owner = some 5 ∧ (placed .owned p (some 5)).order 5 = some p
      ∧ ((placed .stale p none).place (.bin 23)).state = .stale ∧ ((placed .stale p none).place (.bin 23)).owner = none
      ∧ ((placed .ready only (some 5)).place (.bin 23)).state = .ready
      ∧ (placed .ready only (some 5)).order 5 = some only
      ∧ ((only.placeFreed (.bin 23)).bins = [] ∧ (only.placeFreed (.bin 23)).trayHeld = false ∧ only.inFlight = 0)
      ∧ (placed .ready more (some 5)).order 5 = some more ∧ (more.placeFreed (.bin 23)).bins ≠ []
      ∧ ((placed .ready only (some 5)).place (.bin 23)).state ≠ .free := by decide +kernel

theorem witness_sort_timer :
    let two : State := falling none 0 [⟨.print, ⟨5, 1⟩, none, 3, .bin 0⟩]
    (inState .run).sorter.timer = none ∧ two.sorter.timer ≠ none
      ∧ ({ two with engine := State.reset.engine } : State).engine.state = .setup
      ∧ two.engine.state = .run ∧ two.stop.causes = [] ∧ two.CountsInv ∧ two.Counted [⟨5, 1⟩, ⟨5, 1⟩]
      ∧ (∀ c ∈ two.expo.calls, c.state ≠ .exposing)
      ∧ (∃ o, two.order 5 = some o ∧ o.state = .printing ∧ o.owedTotal = 0)
      ∧ (halted [.cutter]).engine.state = .halted := by
  refine ⟨rfl, by decide, rfl, rfl, rfl, ?_, ⟨?_, ?_⟩, by decide, ⟨_, rfl, rfl, by decide⟩, rfl⟩
  · exact orderAt (P := fun _ o => ∀ l ∈ o.lines, l.qty = l.queued + l.onWeb + l.delivered + l.cancelled
      ∧ l.owed ≤ l.queued) (by decide +kernel)
  · intro slot o n l ho hs hl
    have h := orderAt (s := falling none 0 [⟨.print, ⟨5, 1⟩, none, 3, .bin 0⟩])
      (P := fun slot o => slot = 5 ∧ o.lines = [{ threeCopies with queued := 1, onWeb := 2 }]) (by decide +kernel)
      slot o ho
    obtain ⟨rfl, hls⟩ := h
    match n with
    | 0 => simp [Order.line] at hl
    | 1 => simp [Order.line, hls] at hl; subst hl; decide
    | n + 2 => simp [Order.line, hls] at hl
  · intro c hc o ho _
    have h := orderAt (s := falling none 0 [⟨.print, ⟨5, 1⟩, none, 3, .bin 0⟩])
      (P := fun slot o => slot = 5 ∧ o.lines = [{ threeCopies with queued := 1, onWeb := 2 }]) (by decide +kernel)
      _ o ho
    have : c = ⟨5, 1⟩ := by simpa using hc
    subst this
    simp [Order.line, h.2]

/-- A jam sensor level and the latch in an engine state. -/
def jam (e : EngineState) (level latch : Bool) : State :=
  let s := withWork (holding (inState e) 5 (remade 0)) [] [seg 1 49000 none false, seg 2 47729 none false]
  { s with stop := { s.stop with j1 := level, latch := latch } }

theorem witness_jam_sensors :
    ((jam .run false true).stop.level .j1 = false ∧ (jam .run false true).stop.latch = true)
      ∧ ((jam .setup false false).stop.latch = false ∧ (jam .setup false false).engine.state = .setup)
      ∧ ((jam .paused false false).stop.level .j1 = false ∧ (jam .paused false false).stop.latch = false
        ∧ (jam .paused false false).engine.state ≠ .setup ∧ (jam .paused false false).stop.causes = [])
      ∧ (jam .run true true).stop.level .j1 = true
      ∧ ((halted [.cutter]).engine.state = .halted ∧ (halted [.cutter]).stop.level .j2 = false
        ∧ (halted [.cutter]).stop.latch = false ∧ HaltCause.jam ∉ (halted [.cutter]).stop.causes
        ∧ (halted [.cutter]).stop.ret = some .run)
      ∧ ((halted [.jam]).engine.state = .halted ∧ HaltCause.jam ∈ (halted [.jam]).stop.causes)
      ∧ ((jam .recovery false false).engine.state ≠ .setup ∧ (jam .recovery false false).engine.state ≠ .halted) := by
  decide +kernel

/-- The soak timer running with a live segment at the end of the processor and one past it. -/
def soaked : State :=
  let s := withWork (holding (inState .run) 5 (remade 0)) [] [seg 1 53270 none false, seg 2 51999 none false]
  { s with stop := { s.stop with soak := some 90 } }

theorem witness_soak :
    let hit := fun g : Segment => g.void.isNone && (g.kind == .print || g.kind == .index) && g.copy.isSome
      && decide ((soaked.web.stations.pIn : Int) ≤ g.lead ∧ g.lead - (g.length : Int) ≤ soaked.web.stations.pOut)
    (inState .run).stop.soak = none ∧ soaked.stop.soak ≠ none
      ∧ soaked.web.queue.map hit = [true, true] ∧ soaked.CountsInv
      ∧ (calling .awaitingDone (some 1) none).CountsInv
      ∧ (let one := { soaked with web := { soaked.web with queue := [seg 1 53270 none false] } }
        one.web.queue.map hit = [true] ∧ one.Counted [⟨5, 1⟩] ∧ one.CountsInv) := by
  have counts : ∀ s : State, (slots.all fun i => (s.order i).all fun o => decide (∀ l ∈ o.lines,
      l.qty = l.queued + l.onWeb + l.delivered + l.cancelled ∧ l.owed ≤ l.queued)) = true → s.CountsInv :=
    fun s h => orderAt (P := fun _ o => ∀ l ∈ o.lines, l.qty = l.queued + l.onWeb + l.delivered + l.cancelled
      ∧ l.owed ≤ l.queued) h
  refine ⟨rfl, by decide, by decide +kernel, counts _ (by decide +kernel), counts _ (by decide +kernel),
    by decide +kernel, ⟨?_, ?_⟩, counts _ (by decide +kernel)⟩
  · intro slot o n l ho hs hl
    obtain ⟨rfl, hls⟩ := orderAt (P := fun slot o => slot = 5 ∧ o.lines = (remade 0).lines) (by decide +kernel) slot o ho
    match n with
    | 0 => simp [Order.line] at hl
    | 1 => simp [Order.line, hls, remade] at hl; subst hl; decide
    | n + 2 => simp [Order.line, hls, remade] at hl
  · intro c hc o ho _
    have h := orderAt (P := fun slot o => slot = 5 ∧ o.lines = (remade 0).lines) (by decide +kernel) c.slot o ho
    have : c = ⟨5, 1⟩ := by simpa using hc
    subst this
    simp [Order.line, h.2, remade]

/-! ### Figures -/

theorem witness_gross :
    let e : PriceEntry := ⟨210, .graduated, [⟨24, 45⟩, ⟨99, 35⟩, ⟨9999, 28⟩], 1⟩
    e.tiers ≠ [] ∧ e.tiers.Pairwise (fun x y => x.ending < y.ending) ∧ e.gross 24 = 1080 ∧ e.gross 25 = 1115
      ∧ { e with mode := .block }.gross 24 = 1080 ∧ { e with mode := .block }.gross 25 = 875 := by decide +kernel

theorem witness_figures : (10000 ≤ 10000 ∧ (1 ≤ 19 ∧ 19 < 20)) ∧ Discount.amount (.percent 10000) 7 1 = 7
    ∧ Discount.amount (.bundle 20 19) 1000 40 = 50 := by decide +kernel

theorem witness_units :
    (∀ (i j : Fin 32) (x y : SizeEntry), sized.mags.sizes[i] = some x → sized.mags.sizes[j] = some y →
        x.product = y.product → i = j)
      ∧ (∃ (i : Fin 32) (z : SizeEntry), sized.mags.sizes[i] = some z ∧ z.product = threeCopies.product ∧ z.units = 3)
      ∧ sized.orderUnits [threeCopies, { threeCopies with product := 6, qty := 1 }] = 10 := by
  have held : ∀ (i : Fin 32) (x : SizeEntry), sized.mags.sizes[i] = some x →
      (i = 0 ∧ x.product = 5) ∨ (i = 31 ∧ x.product = 6) := by
    intro i
    exact optAll (P := fun x : SizeEntry => (i = 0 ∧ x.product = 5) ∨ (i = 31 ∧ x.product = 6))
      (by revert i; decide +kernel)
  refine ⟨fun i j x y hx hy h => ?_, ⟨0, _, rfl, rfl, rfl⟩, by decide +kernel⟩
  rcases held i x hx with ⟨rfl, hx'⟩ | ⟨rfl, hx'⟩ <;> rcases held j y hy with ⟨rfl, hy'⟩ | ⟨rfl, hy'⟩ <;>
    first | rfl | omega

/-! ### The selection pass -/

/-- RUN with paper of 127 mm threaded and a roll of another width on standby, and an order of this state and line. -/
def selecting (o : Order) (standby : Width) (free : Nat) : State :=
  let s := threaded (holding { sized with engine := ⟨.run, false, .powerOn, false⟩ } 5 o) 100000
  { s with
    mags := { s.mags with magB := some ⟨.loaded, standby, 1800000, 50000, false, ⟨820, 640, 700⟩, ⟨0, 0, 0⟩⟩ }
    sched := { s.sched with standard := [5] }
    sorter := { s.sorter with bins := Vector.ofFn fun b : Fin 24 =>
      if b.val < 24 - free then ⟨.stale, none, none, 0, 0, true⟩ else Bin.emptied } }

/-- The choice that a walk of this state finds. -/
def chosen : Choice := ⟨⟨5, 1⟩, threeCopies, .w127, 1270, 20⟩

theorem witness_selection :
    let w := order1001 .waiting 0
    let p := { order1001 .printing 0 with bins := [⟨0, 0⟩] }
    let s := selecting w .w152 5
    (s.order 5 = some w ∧ s.Open 5 w ∧ s.CanServe 5 w)
      ∧ ((selecting w .w152 4).order 5 = some w ∧ ¬ (selecting w .w152 4).CanServe 5 w)
      ∧ ((selecting p .w152 0).Open 5 p ∧ w.state = .waiting ∧ w.held = false)
      ∧ s.FirstCopy false 5 w chosen := by
  have can : (selecting (order1001 .waiting 0) .w152 5).CanServe 5 (order1001 .waiting 0) :=
    ⟨⟨1, false⟩, by decide +kernel, by decide +kernel⟩
  refine ⟨⟨rfl, ⟨rfl, .inr ⟨rfl, can⟩⟩, can⟩, ⟨rfl, ?_⟩, ⟨⟨rfl, .inl ⟨rfl, .inl (by decide)⟩⟩, rfl, rfl⟩, rfl, rfl, ?_,
    ⟨⟨5, .print, .w127, 1270, 3⟩, ⟨?_, rfl, .a, _, rfl, rfl, rfl, rfl, ?_⟩, rfl, rfl⟩, ?_, ?_⟩
  · rintro ⟨n, hn, h⟩
    have hv : (selecting (order1001 .waiting 0) .w152 4).sorter.needs[(5 : Slot)] = some ⟨1, false⟩ := by decide +kernel
    rw [hv] at hn
    cases hn
    revert h
    decide +kernel
  · simp only [State.ToCall]; decide +kernel
  · decide +kernel
  · decide +kernel
  · decide +kernel
  · intro n l h hl
    have : n = 0 := by simp only [chosen] at h; omega
    subst this
    simp [Order.line] at hl

theorem witness_pull :
    let two : Line := { threeCopies with product := 7 }
    let o := { order1001 .printing 0 with lines := [two], bins := [⟨0, 0⟩] }
    let s := selecting o .w152 0
    let t := { s with mags := { s.mags with sizes := s.mags.sizes.set 7 (some ⟨7, .print, .w152, 1780, 2⟩) } }
    t.order 5 = some o ∧ t.FirstPull false 5 o .w152 ∧ (∀ z, ¬ t.OnActive two z)
      ∧ (State.walk State.pullLook [5] t).2 = some (.pull .w152) := by
  refine ⟨rfl, ⟨1, { threeCopies with product := 7 }, rfl, ?_, ⟨⟨7, .print, .w152, 1780, 2⟩, ?_, rfl, .b, _, ?_, rfl,
    rfl, rfl⟩, ?_⟩, ?_, ?_⟩
  · simp only [State.ToCall]; decide +kernel
  · decide +kernel
  · decide
  · intro k x h hk
    have : k = 0 := by omega
    subst this
    simp [Order.line] at hk
  · rintro z ⟨hz, -, m, r, hm, hr, -, hw, -⟩
    cases hm
    cases hr
    revert hw hz
    have hv : ∀ z : SizeEntry, (some ⟨7, .print, .w152, 1780, 2⟩ : Option SizeEntry) = some z → Width.w127 ≠ z.width := by
      rintro z h
      cases h
      decide
    intro hz hw
    exact hv z (by rw [← hz]; decide +kernel) hw
  · decide +kernel

/-- A WAITING order of need 1: the grant takes the lowest FREE bin, the call takes tag 1 (R126, R58, R73). -/
theorem test_hand_over_grants_and_calls :
    let t := (selecting (order1001 .waiting 0) .w152 5).handOver chosen
    (t.order 5).map (fun o => (o.state, o.bins)) = some (.printing, [⟨19, 0⟩]) ∧ t.sorter.bins[(19 : BinIx)].pos = some 0
      ∧ t.expo.calls.map (fun c => (c.tag, c.state, c.timer)) = [(1, .preparing, some 2000)]
      ∧ t.expo.port.length = 1 := by decide +kernel

theorem witness_hand_over :
    let w := order1001 .waiting 0
    let s := selecting w .w152 5
    let b := { s with sorter := { s.sorter with needs := s.sorter.needs.set 5 (some ⟨7, true⟩) } }
    (s.mags.selector = some .a ∧ (∃ r, s.mags.get .a = some r ∧ r.state = .active) ∧ s.order chosen.copy.slot = some w
        ∧ w.line chosen.copy.line = some chosen.line ∧ s.sorter.needs[chosen.copy.slot] = some ⟨1, false⟩)
      ∧ b.sorter.needs[chosen.copy.slot] = some ⟨7, true⟩
      ∧ (s.expo.calls.length < 2 ∧ s.web.queue.length + s.expo.calls.length < 192)
      ∧ sliceRule 6 0 (some chosen) (some chosen) = some (chosen, 6) ∧ (inState .paused).engine.state ≠ .run := by
  refine ⟨⟨rfl, ⟨_, rfl, rfl⟩, rfl, rfl, ?_⟩, ?_, ?_, ?_, ?_⟩ <;> decide +kernel

theorem witness_lookup :
    (∀ (b : BankIx) (i j : Fin 32) (x y : PriceEntry), priced.pricing.book[b][i] = some x →
        priced.pricing.book[b][j] = some y → x.product = y.product → i = j)
      ∧ (∃ e, priced.pricing.book[(0 : BankIx)][(0 : Fin 32)] = some e ∧ e.product = 5)
      ∧ (4095 ≤ 4095 ∧ book89.promotionFor 330 3 = some 1 ∧ book89.promotionFor 4095 0 = none) := by
  have one : ∀ (b : BankIx) (i : Fin 32) (x : PriceEntry), priced.pricing.book[b][i] = some x → i = 0 := by
    decide +kernel
  refine ⟨fun b i j x y hx hy _ => (one b i x hx).trans (one b j y hy).symm, ⟨_, rfl, rfl⟩, ?_⟩
  decide +kernel

theorem witness_factors : (0 ≤ 100 ∧ 100 ≤ 100 ∧ 99 < 100) ∧ factor (-50) = 20724 ∧ factor 50 = 207243
    ∧ factor (-2) = 62586 ∧ factor 40 = 164619 := by decide

end Sys2Proof.Tests
end

section
/-! PROOFS. The slice rule of R59, a row of its table at a time. -/

namespace Sys2Proof.Machine

section SliceRule

variable {limit slice : Nat} {h l : Choice}

/-- R59, first row: with STANDARD_SLICE 0 the guarantee is off, and higher work goes first at any count. -/
theorem sliceRule_both_of_limit_zero (off : limit = 0) :
    sliceRule limit slice (some h) (some l) = some (h, slice) :=
  if_pos off

/-- R59, second row: higher work uses up one of its turns while a standard copy stands ready. -/
theorem sliceRule_both_of_slice_pos (on : 0 < limit) (left : 0 < slice) :
    sliceRule limit slice (some h) (some l) = some (h, slice - 1) :=
  (if_neg (Nat.ne_of_gt on)).trans (if_pos left)

/-- R59, third row: with no turn left the standard copy is chosen, and S is reloaded. -/
theorem sliceRule_both_of_slice_zero (on : 0 < limit) (out : slice = 0) :
    sliceRule limit slice (some h) (some l) = some (l, limit) :=
  (if_neg (Nat.ne_of_gt on)).trans (if_neg (Nat.not_lt_of_le (Nat.le_of_eq out)))

end SliceRule

@[simp] theorem sliceRule_higher_only (limit slice : Nat) (h : Choice) :
    sliceRule limit slice (some h) none = some (h, slice) := rfl

@[simp] theorem sliceRule_standard_only (limit slice : Nat) (l : Choice) :
    sliceRule limit slice none (some l) = some (l, limit) := rfl

@[simp] theorem sliceRule_no_candidate (limit slice : Nat) :
    sliceRule limit slice none none = none := rfl

end Sys2Proof.Machine

namespace Sys2Proof.Settled

open Sys2Proof.Machine

/-- Settles O59, by the rows of the table of R59. (Protected: the model's function has the same short name.) -/
protected theorem sliceRule : Obligations.SliceRule := by
  intro limit slice h l
  exact ⟨sliceRule_no_candidate limit slice, sliceRule_higher_only limit slice h,
    sliceRule_standard_only limit slice l, sliceRule_both_of_limit_zero,
    sliceRule_both_of_slice_pos, sliceRule_both_of_slice_zero⟩

end Sys2Proof.Settled
end

section
/-! PROOFS. READY and DONE records on the raster port, by the state of the call they match (R74, R80, R82). -/

namespace Sys2Proof.Machine

open Sys2Proof

/-! ## An event that calls for no reaction -/

/-- The fresh state is the state itself where no mark is left over from an earlier event. -/
theorem fresh_of_due_none {s : State} (h : s.due = Due.none) : s.fresh = s := by
  simp [State.fresh, State.setDue, ← h]

/-- An event whose effect on the fresh state is known goes on to its end from there. -/
theorem event_eq_ended {s u : State} {f : State → State} (hr : s.engine.resetAsserted = false)
    (hf : f s.fresh = u) : s.event f = u.ended := by
  rw [event_eq hr, hf]

/-- An event whose effect leaves every mark clear ends with that effect. -/
theorem event_of_unmarked {s u : State} {f : State → State} (hr : s.engine.resetAsserted = false)
    (hf : f s.fresh = u) (hu : u.due = Due.none) : s.event f = u := by
  rw [event_eq_ended hr hf, ended_of_quiet (quiet_of_due_none hu) (by rw [hu]; rfl) (by rw [hu]; rfl)]
  exact fresh_of_due_none hu

/-- An event that has no effect clears the marks alone. -/
theorem event_of_no_effect {s : State} {f : State → State} (hr : s.engine.resetAsserted = false)
    (hf : f s.fresh = s.fresh) : s.event f = { s with due := Due.none } :=
  event_of_unmarked hr hf rfl

/-- Between events the marks are clear, so that an event with no effect changes nothing,
whether or not the RESET line is asserted. -/
theorem event_of_no_effect_of_due_none {s : State} {f : State → State} (hd : s.due = Due.none) (hf : f s = s) :
    s.event f = s := by
  cases hr : s.engine.resetAsserted with
  | true => exact event_of_reset hr
  | false => exact event_of_unmarked hr (by rw [fresh_of_due_none hd, hf]) hd

/-! ## The call of a tag -/

theorem call_eq_none_iff {s : State} {tag : Nat} : s.call tag = none ↔ ∀ c ∈ s.expo.calls, c.tag ≠ tag := by
  simp [State.call]

/-! ## The two records -/

theorem exec_ready (s : State) (tag : Nat) : exec (.ready tag) s = .next (s.event (State.takeReady tag)) := rfl

theorem exec_done (s : State) (tag : Nat) (st : DoneStatus) :
    exec (.done tag st) s = .next (s.event (State.takeDone tag st)) := rfl

section RecordsByCallState

variable {s : State} {tag : Nat} {c : Call}

theorem takeReady_unmatched (hc : s.call tag = none) : s.takeReady tag = s := by
  simp [State.takeReady, hc]

theorem takeReady_preparing (hc : s.call tag = some c) (hp : c.state = .preparing) :
    s.takeReady tag = s.makeReady tag := by
  simp [State.takeReady, hc, hp]

theorem takeReady_of_not_preparing (hc : s.call tag = some c) (hp : c.state ≠ .preparing) : s.takeReady tag = s := by
  simp [State.takeReady, hc, hp]

theorem takeDone_unmatched (st : DoneStatus) (hc : s.call tag = none) : s.takeDone tag st = s := by
  simp [State.takeDone, hc]

theorem takeDone_good_not_begun (hc : s.call tag = some c) (hw : c.state = .preparing ∨ c.state = .ready) :
    s.takeDone tag .good = s := by
  obtain hp | hp := hw <;> simp [State.takeDone, hc, hp]

theorem takeDone_good_exposing (hc : s.call tag = some c) (hx : c.state = .exposing) (he : c.early = none) :
    s.takeDone tag .good = s.setEarly tag .good := by
  simp [State.takeDone, hc, hx, he]

/-- R80: only the first DONE of an exposing call is kept. -/
theorem takeDone_exposing_again (st : DoneStatus) (hc : s.call tag = some c) (hx : c.state = .exposing)
    (he : c.early ≠ none) : s.takeDone tag st = s := by
  cases st <;> simp [State.takeDone, hc, hx, he]

theorem takeDone_good_awaiting (hc : s.call tag = some c) (ha : c.state = .awaitingDone) :
    s.takeDone tag .good = s.removeCall tag := by
  simp [State.takeDone, hc, ha]

end RecordsByCallState

end Sys2Proof.Machine

namespace Sys2Proof.Settled

open Sys2Proof Sys2Proof.Machine

/-- Settles O38: the two cases of `takeReady` (R74), and the column DONE GOOD of the table of R80 with the rule for a
second DONE. -/
theorem readyAndDoneGood : Obligations.ReadyAndDoneGood := by
  refine ⟨fun s c hr hc => ?readyRecord, fun s c hr hc => ?doneRecord⟩ <;>
    have hf : s.fresh.call c.tag = some c := hc
  case readyRecord =>
    refine ⟨fun hp => ?_, fun hp => ?_⟩
    · rw [exec_ready, event_eq_ended hr (takeReady_preparing hf hp)]
      rfl
    · rw [exec_ready, event_of_no_effect hr (takeReady_of_not_preparing hf hp)]
  case doneRecord =>
    refine ⟨fun hx he => ?_, fun hx he st => ?_, fun hw => ?_, fun ha => ?_⟩
    · rw [exec_done, event_of_unmarked hr (takeDone_good_exposing hf hx he) rfl]
      rfl
    · rw [exec_done, event_of_no_effect hr (takeDone_exposing_again st hf hx he)]
    · rw [exec_done, event_of_no_effect hr (takeDone_good_not_begun hf hw)]
    · rw [exec_done, event_eq_ended hr (takeDone_good_awaiting hf ha)]
      rfl

/-- Settles O39: a record that matches no call has no effect, and an event with no effect keeps the state. -/
theorem unmatchedRecordsAreIgnored : Obligations.UnmatchedRecordsAreIgnored := by
  intro s tag st hc hd
  have hnone := call_eq_none_iff.mpr hc
  rw [exec_ready, exec_done, event_of_no_effect_of_due_none hd (takeReady_unmatched hnone),
    event_of_no_effect_of_due_none hd (takeDone_unmatched st hnone)]
  exact ⟨rfl, rfl⟩

end Sys2Proof.Settled
end

section
/-! PROOFS. The factor table and the exposure times (R66 to R68). -/

namespace Sys2Proof.Machine

/-- The entry of the table at the index n belongs to the density sum n - 50. -/
theorem factor_eq_getD (n : Nat) : factor ((n : Int) - 50) = factorTable.getD n 0 := by
  simp [factor]

/-- The table rises from each entry to the next. -/
theorem factorTable_rises : ∀ n < 100, factorTable.getD n 0 < factorTable.getD (n + 1) 0 := by
  decide

/-- Each entry is 65536 × 10^((n - 50)/100) rounded to the nearest whole number: with both sides doubled, raised to the
100th power and freed of the root and of the negative exponent, a comparison of whole numbers for each entry. -/
theorem factorTable_nearest : ∀ n < 101,
    (2 * factorTable.getD n 0 - 1) ^ 100 * 10 ^ 50 < 131072 ^ 100 * 10 ^ n
      ∧ 131072 ^ 100 * 10 ^ n < (2 * factorTable.getD n 0 + 1) ^ 100 * 10 ^ 50 := by
  decide

/-- A time held within 20..5000 (R68), by its cases. -/
theorem heldTime_eq_ite (t : Nat) :
    max 20 (min 5000 t) = if t < 20 then 20 else if 5000 < t then 5000 else t := by
  split
  · omega
  · split <;> omega

end Sys2Proof.Machine

namespace Sys2Proof.Settled

open Sys2Proof.Machine

/-- Settles O58: the table by its entries, the time by the clamps of R66 and R68. -/
theorem factorTableAndTimes : Obligations.FactorTableAndTimes := by
  refine ⟨⟨fun n hn => ?_, fun n hn => ?_, rfl, rfl⟩, fun base sum => ⟨heldTime_eq_ite _, decide_eq_true_iff⟩⟩
  · rw [factor_eq_getD]
    exact factorTable_nearest n (Nat.lt_succ_of_le hn)
  · have hnext : (n : Int) - 49 = ((n + 1 : Nat) : Int) - 50 := by omega
    rw [hnext, factor_eq_getD, factor_eq_getD]
    exact factorTable_rises n hn

end Sys2Proof.Settled
end

section
/-! PROOFS. The transport between two states of one event (R94): the relation `TransportPath`, with its rules for the
replacing of a block and for the marks. -/

namespace Sys2Proof.Machine

open Sys2Proof

/-! ## What the transport is decided by -/

/-- A call in READY or EXPOSING, which keeps the transport running (R94). -/
def Call.moving (c : Call) : Bool := c.state == .exposing || c.state == .ready

/-- A changeover in THREADING, which keeps the transport running (R94). -/
def Changeover.isThreading : Changeover → Bool
  | .threading _ _ => true
  | .idle => false
  | .pending _ _ => false

theorem keepRunning_eq (s : State) :
    s.keepRunning = (!s.web.queue.isEmpty || s.expo.calls.any Call.moving || s.mags.change.isThreading
      || s.web.purge.isSome) := by
  unfold State.keepRunning
  cases s.mags.change <;> rfl

/-- The transport is called to stop by the engine state alone. -/
theorem transportFor_eq_stopped_iff {s : State} :
    s.transportFor = .stopped ↔ s.engine.state = .setup ∨ s.engine.state = .halted := by
  unfold State.transportFor
  cases s.engine.state with
  | setup => simp
  | halted => simp
  | recovery => simp
  | run => cases s.keepRunning <;> simp
  | paused => cases s.keepRunning <;> simp

@[simp] theorem Magazines.put_change (g : Magazines) (m : MagId) (r : Option MagRec) :
    (g.put m r).change = g.change := by
  cases m <;> rfl

/-- The drive follows the transport unless the RESET line holds the outputs released (R94, R188). -/
def State.DriveRight (s : State) : Prop :=
  s.engine.resetAsserted = false → s.lines.transportDrive = (s.web.transport == .running)

/-- What the transport invariant and the mark of its test read of a state. -/
def State.transportView (s : State) : Transport × Transport × Bool × Bool × Bool :=
  (s.web.transport, s.transportFor, s.lines.transportDrive, s.engine.resetAsserted, s.due.transport)

/-- The transport between two states `s` and `t` of one event: the drive stays right, and the transport is marked for
the test at the event's end, or stopped for good, or it and what it is decided by are as they were. -/
structure State.TransportPath (s t : State) : Prop where
  drive : s.DriveRight → t.DriveRight
  reported : t.due.transport = true ∨ (t.web.transport = .stopped ∧ t.transportFor = .stopped)
    ∨ (t.due.transport = s.due.transport ∧ t.web.transport = s.web.transport ∧ t.transportFor = s.transportFor)

/-! ## The transport set -/

/-- Setting the transport does nothing where it is so already, and else moves the drive with it, and Stop Control's soak
timer (R94, R95, R168). -/
theorem setTransport_cases (s : State) (x : Transport) :
    (s.web.transport = x ∧ s.setTransport x = s)
      ∨ ∃ stop, s.setTransport x = { s with
          web := { s.web with transport := x }
          lines := { s.lines with transportDrive := x == .running }
          stop := stop } := by
  unfold State.setTransport State.transportReport
  split
  · next same => exact .inl ⟨same, rfl⟩
  · refine .inr ?_
    cases x with
    | running => exact ⟨_, rfl⟩
    | idle => exact ⟨_, rfl⟩
    | stopped =>
      dsimp only
      split <;> exact ⟨_, rfl⟩

theorem setTransport_transport (s : State) (x : Transport) : (s.setTransport x).web.transport = x := by
  obtain ⟨same, e⟩ | ⟨stop, e⟩ := setTransport_cases s x
  · rw [e, same]
  · rw [e]

theorem setTransport_transportFor (s : State) (x : Transport) : (s.setTransport x).transportFor = s.transportFor := by
  obtain ⟨-, e⟩ | ⟨stop, e⟩ := setTransport_cases s x
  · rw [e]
  · rw [e]; rfl

theorem setTransport_due (s : State) (x : Transport) : (s.setTransport x).due = s.due := by
  obtain ⟨-, e⟩ | ⟨stop, e⟩ := setTransport_cases s x <;> rw [e]

theorem setTransport_driveRight {s : State} (h : s.DriveRight) (x : Transport) : (s.setTransport x).DriveRight := by
  obtain ⟨-, e⟩ | ⟨stop, e⟩ := setTransport_cases s x <;> rw [e]
  · exact h
  · exact fun _ => rfl

/-- The test at the end of the event makes the transport right, where it was marked or is right already. -/
theorem reactTransport_transportInv {s : State} (hd : s.DriveRight)
    (h : s.due.transport = true ∨ s.web.transport = s.transportFor) : s.reactTransport.TransportInv := by
  unfold State.reactTransport
  split
  · exact ⟨by rw [State.evalTransport, setTransport_transport, setTransport_transportFor],
      setTransport_driveRight hd _⟩
  · next unmarked => exact ⟨h.resolve_left unmarked, hd⟩

/-! ## Paths -/

namespace State.TransportPath

variable {s t u : State}

theorem refl (s : State) : TransportPath s s := ⟨id, .inr (.inr ⟨rfl, rfl, rfl⟩)⟩

/-- A path goes on over whatever leaves alone what the transport reads. -/
theorem same (h : TransportPath s t) (e : u.transportView = t.transportView) : TransportPath s u := by
  simp only [State.transportView, Prod.mk.injEq] at e
  obtain ⟨htransport, hfor, hdrive, hline, hdue⟩ := e
  constructor
  · intro hs
    have ht := h.drive hs
    unfold State.DriveRight at ht ⊢
    rwa [hline, hdrive, htransport]
  · rw [hdue, htransport, hfor]
    exact h.reported

/-- A path goes on over whatever changes the conditions, once it is marked. -/
theorem mark (hd : s.DriveRight → t.DriveRight) : TransportPath s t.transportTest := ⟨hd, .inl rfl⟩

theorem ite {c : Prop} [Decidable c] (ht : TransportPath s t) (hu : TransportPath s u) :
    TransportPath s (if c then t else u) := by
  split
  · exact ht
  · exact hu

theorem foldl {α : Type} {f : State → α → State} {l : List α} (h : TransportPath s t)
    (hf : ∀ a {u}, TransportPath s u → TransportPath s (f u a)) : TransportPath s (l.foldl f t) := by
  induction l generalizing t with
  | nil => exact h
  | cons a l ih => exact ih (hf a h)

/-! ### One block replaced -/

theorem setLink {x : Link} (h : TransportPath s t) : TransportPath s (t.setLink x) := h.same rfl
theorem setOrders {x : OrderTable} (h : TransportPath s t) : TransportPath s (t.setOrders x) := h.same rfl
theorem setSched {x : Scheduler} (h : TransportPath s t) : TransportPath s (t.setSched x) := h.same rfl
theorem setCutter {x : Cutter} (h : TransportPath s t) : TransportPath s (t.setCutter x) := h.same rfl
theorem setSorter {x : Sorter} (h : TransportPath s t) : TransportPath s (t.setSorter x) := h.same rfl
theorem setPricing {x : Pricing} (h : TransportPath s t) : TransportPath s (t.setPricing x) := h.same rfl
theorem setStop {x : StopControl} (h : TransportPath s t) : TransportPath s (t.setStop x) := h.same rfl

theorem setLines {x : Lines} (h : TransportPath s t) (hx : x.transportDrive = t.lines.transportDrive) :
    TransportPath s (t.setLines x) :=
  h.same (by rw [State.transportView, State.setLines_lines, hx]; rfl)

theorem setMags {x : Magazines} (h : TransportPath s t) (hx : x.change.isThreading = t.mags.change.isThreading) :
    TransportPath s (t.setMags x) :=
  h.same (by simp [State.transportView, State.transportFor, keepRunning_eq, hx])

theorem setExpo {x : Exposure} (h : TransportPath s t) (hx : x.calls.any Call.moving = t.expo.calls.any Call.moving) :
    TransportPath s (t.setExpo x) :=
  h.same (by simp only [State.transportView, State.transportFor, keepRunning_eq, State.setExpo_expo, hx]; rfl)

theorem setWeb {x : Web} (h : TransportPath s t) (ht : x.transport = t.web.transport)
    (hq : x.queue.isEmpty = t.web.queue.isEmpty) (hp : x.purge.isSome = t.web.purge.isSome) :
    TransportPath s (t.setWeb x) :=
  h.same (by simp [State.transportView, State.transportFor, keepRunning_eq, ht, hq, hp])

theorem setQueue {q : List Segment} (h : TransportPath s t) (hq : q.isEmpty = t.web.queue.isEmpty) :
    TransportPath s (t.setWeb { t.web with queue := q }) :=
  h.setWeb rfl hq rfl

/-! ### Marks, links and lines -/

theorem prompt (h : TransportPath s t) : TransportPath s t.prompt := h.same rfl
theorem headTest (h : TransportPath s t) : TransportPath s t.headTest := h.same rfl
theorem stripTest (h : TransportPath s t) : TransportPath s t.stripTest := h.same rfl
theorem transportTest (h : TransportPath s t) : TransportPath s t.transportTest := mark h.drive

theorem queueReply {r : Reply} (h : TransportPath s t) : TransportPath s (t.queueReply r) := ite (h.same rfl) h
theorem notify {n : Notice} (h : TransportPath s t) : TransportPath s (t.notify n) := ite (h.same rfl) h.setLink
theorem sendPort {r : PortRecord} (h : TransportPath s t) : TransportPath s (t.sendPort r) := h.same rfl
theorem sendCancel {tag : Nat} (h : TransportPath s t) : TransportPath s (t.sendCancel tag) :=
  ite (h.setExpo rfl) h.sendPort

theorem strobe {x : Strobe} (h : TransportPath s t) : TransportPath s (t.strobe x) := h.same rfl
theorem gate {on : Bool} (h : TransportPath s t) : TransportPath s (t.gate on) := h.same rfl
theorem sortDrive {on : Bool} (h : TransportPath s t) : TransportPath s (t.sortDrive on) := h.same rfl
theorem driveLamp (h : TransportPath s t) : TransportPath s t.driveLamp := h.same rfl
theorem annunciate (h : TransportPath s t) : TransportPath s t.annunciate := h.same rfl
theorem threadDrive {m : MagId} {on : Bool} (h : TransportPath s t) : TransportPath s (t.threadDrive m on) := by
  cases m <;> exact h.setLines rfl

end State.TransportPath

end Sys2Proof.Machine
end

section
/-! PROOFS. The shared operations of the blocks go along a path of the transport (R94). -/

namespace Sys2Proof.Machine

open Sys2Proof

namespace State.TransportPath

variable {s t u : State}

/-! ### Order records, bins and magazines -/

theorem putOrder {slot : Slot} {o : Option Order} (h : TransportPath s t) : TransportPath s (t.putOrder slot o) :=
  h.setOrders

theorem modifyOrder {slot : Slot} {f : Order → Order} (h : TransportPath s t) :
    TransportPath s (t.modifyOrder slot f) := by
  unfold State.modifyOrder
  split
  · exact h
  · exact h.putOrder

theorem putPlace {p : Container} {x : Bin} (h : TransportPath s t) : TransportPath s (t.putPlace p x) := by
  cases p <;> exact h.setSorter

theorem putMag {m : MagId} {r : Option MagRec} (h : TransportPath s t) : TransportPath s (t.putMag m r) :=
  h.setMags (by rw [Magazines.put_change])

/-! ### The Order Table and the lists of the Scheduler -/

theorem leaveClassList {slot : Slot} (h : TransportPath s t) : TransportPath s (t.leaveClassList slot) :=
  h.setSched.prompt

theorem joinClassList {slot : Slot} {cls : OrderClass} (h : TransportPath s t) :
    TransportPath s (t.joinClassList slot cls) := by
  cases cls <;> exact h.setSched

theorem joinRemake {slot : Slot} (h : TransportPath s t) : TransportPath s (t.joinRemake slot) :=
  ite h h.setSched.prompt

theorem leaveRemake {slot : Slot} (h : TransportPath s t) : TransportPath s (t.leaveRemake slot) := h.setSched

theorem reportOwing {slot : Slot} {a b : Nat} (h : TransportPath s t) : TransportPath s (t.reportOwing slot a b) :=
  ite h.joinRemake (ite h.leaveRemake h)

theorem leaveBinWait {slot : Slot} (h : TransportPath s t) : TransportPath s (t.leaveBinWait slot) :=
  ite h.setSched.annunciate h

theorem joinBinWait {slot : Slot} {o : Order} (h : TransportPath s t) : TransportPath s (t.joinBinWait slot o) :=
  ite h h.setSched.notify.annunciate

theorem freeRecord {slot : Slot} {o : Order} (h : TransportPath s t) : TransportPath s (t.freeRecord slot o) :=
  h.putOrder.setSorter.setPricing.annunciate

theorem tryFree {slot : Slot} (h : TransportPath s t) : TransportPath s (t.tryFree slot) := by
  unfold State.tryFree
  split
  · exact h
  · exact ite h.freeRecord.notify h

theorem reportFreed {owner : Option Slot} {p : Container} (h : TransportPath s t) :
    TransportPath s (t.reportFreed owner p) := by
  cases owner with
  | none => exact h
  | some slot => exact h.modifyOrder

theorem freePlace {p : Container} (h : TransportPath s t) : TransportPath s (t.freePlace p) :=
  h.putPlace.reportFreed.prompt

theorem stalePlace {p : Container} (h : TransportPath s t) : TransportPath s (t.stalePlace p) := h.putPlace.reportFreed

theorem placesReady {slot : Slot} (h : TransportPath s t) : TransportPath s (t.placesReady slot) :=
  (h.foldl fun _ _ h => h.putPlace).foldl fun _ _ h => h.freePlace

theorem releasePlaces {slot : Slot} (h : TransportPath s t) : TransportPath s (t.releasePlaces slot) :=
  h.foldl fun _ _ h => ite h.stalePlace h.freePlace

theorem endCancelling {slot : Slot} (h : TransportPath s t) : TransportPath s (t.endCancelling slot) := by
  unfold State.endCancelling
  split
  · exact h
  · exact ite h.releasePlaces.freeRecord.notify h.putOrder.placesReady.tryFree

theorem flightEmpty {slot : Slot} (h : TransportPath s t) : TransportPath s (t.flightEmpty slot) := by
  unfold State.flightEmpty
  split
  · exact h
  · exact ite h.endCancelling h.tryFree

theorem leftFlight {slot : Slot} (h : TransportPath s t) : TransportPath s (t.leftFlight slot) := by
  unfold State.leftFlight
  split
  · exact h
  · exact ite h.putOrder.flightEmpty h.putOrder

theorem completeOrder {slot : Slot} {o : Order} (h : TransportPath s t) : TransportPath s (t.completeOrder slot o) :=
  h.leaveClassList.putOrder.placesReady.annunciate.notify.tryFree

theorem completionTest {slot : Slot} (h : TransportPath s t) : TransportPath s (t.completionTest slot) := by
  unfold State.completionTest
  split
  · exact h
  · exact ite h.completeOrder h

theorem moveCount {c : Copy} {can : Line → Bool} {f : Line → Line} (h : TransportPath s t) :
    TransportPath s (t.moveCount c can f) := by
  unfold State.moveCount
  split
  · exact h
  split
  · exact h
  · exact ite (ite h.putOrder.reportOwing.prompt h.putOrder.reportOwing) h

theorem voidReport {c : Copy} {cause : VoidCause} (h : TransportPath s t) : TransportPath s (t.voidReport c cause) :=
  h.moveCount.completionTest

theorem deliveryReport {c : Copy} (h : TransportPath s t) : TransportPath s (t.deliveryReport c) :=
  h.moveCount.completionTest

theorem exposureReport {c : Copy} (h : TransportPath s t) : TransportPath s (t.exposureReport c) :=
  h.moveCount.modifyOrder

theorem limitedReport {c : Copy} (h : TransportPath s t) : TransportPath s (t.limitedReport c) := h.modifyOrder

theorem disturbedReport {slot : Slot} (h : TransportPath s t) : TransportPath s (t.disturbedReport slot) :=
  h.modifyOrder

/-! ### The web queue -/

theorem enterSegment {kind : SegKind} {copy : Option Copy} {length : Nat} {width : Width} {gap tag : Nat}
    (hd : s.DriveRight → t.DriveRight) : TransportPath s (t.enterSegment kind copy length width gap tag) :=
  mark hd

/-- A void request keeps every segment on the queue (R98). -/
theorem voidSegments {cause : VoidCause} {p : Segment → Bool} (h : TransportPath s t) :
    TransportPath s (t.voidSegments cause p) :=
  have hv := h.setQueue (q := t.web.queue.map (Segment.voidFor cause p)) List.isEmpty_map
  ite hv (hv.foldl fun _ _ h => h.voidReport)

theorem voidOne {cause : VoidCause} {sid : Nat} (h : TransportPath s t) : TransportPath s (t.voidOne cause sid) :=
  h.voidSegments

theorem removeFront {handedOff : Bool} (h : TransportPath s t) : TransportPath s (t.removeFront handedOff) := by
  unfold State.removeFront
  split
  · exact h
  · dsimp only
    split
    · exact leftFlight ⟨h.drive, .inl rfl⟩
    · exact mark h.drive

/-! ### The raster calls -/

theorem removeCall {tag : Nat} (h : TransportPath s t) : TransportPath s (t.removeCall tag) := mark h.drive

theorem cancelCall {c : Call} (h : TransportPath s t) : TransportPath s (t.cancelCall c) := h.sendCancel.removeCall

theorem withdraw {p : Call → Bool} (h : TransportPath s t) : TransportPath s (t.withdraw p) :=
  h.foldl fun _ _ h => h.cancelCall

theorem abandon {p : Call → Bool} (h : TransportPath s t) : TransportPath s (t.abandon p) :=
  h.foldl fun _ _ h => h.sendCancel.gate.removeCall

theorem dropAwaiting {p : Call → Bool} (h : TransportPath s t) : TransportPath s (t.dropAwaiting p) :=
  h.foldl fun _ _ h => h.removeCall

/-- A call is entered in PREPARING, which keeps nothing running (R73, R94). -/
theorem enterCall {c : Copy} {l : Line} {width : Width} {length gap : Nat} (h : TransportPath s t) :
    TransportPath s (t.enterCall c l width length gap) := by
  unfold State.enterCall
  split
  · exact h
  · exact ((ite h.limitedReport h).setExpo (by simp [Call.moving])).sendPort

theorem beginExposure {c : Call} (h : TransportPath s t) : TransportPath s (t.beginExposure c) := by
  refine prompt (exposureReport ?_)
  exact ⟨h.drive, .inl rfl⟩

theorem exposeTest : ∀ {fuel : Nat} {t : State}, TransportPath s t → TransportPath s (State.exposeTest fuel t)
  | 0, _, h => h
  | fuel + 1, t, h => by
    unfold State.exposeTest
    split
    · exact h
    · exact ite (ite h.beginExposure (exposeTest h.cancelCall)) h

theorem exposureEndTest (h : TransportPath s t) : TransportPath s t.exposureEndTest := by
  unfold State.exposureEndTest
  split
  · exact h
  split
  · exact h
  split
  · exact h
  extract_lets clear ended
  have hended : TransportPath s ended := mark h.drive
  split
  · exact h.same rfl
  · exact ite ⟨hended.drive, .inl rfl⟩ hended.removeCall

/-! ### Paper -/

theorem paperCheckLines {slot : Slot} {number : Nat} : ∀ {ls : List Line} {n : Nat} {t : State}, TransportPath s t →
    TransportPath s (State.paperCheckLines slot number n ls t)
  | [], _, _, h => h
  | l :: ls, n, t, h => by
    unfold State.paperCheckLines
    refine paperCheckLines ?_
    split
    · exact h
    · exact h.modifyOrder.notify

theorem paperCheck (h : TransportPath s t) : TransportPath s t.paperCheck := by
  refine ite (h.foldl fun slot u h => ?_) h
  split
  · exact h
  · exact h.paperCheckLines

theorem paperChanged (h : TransportPath s t) : TransportPath s t.paperChanged := h.paperCheck.prompt.stripTest

/-- A changeover asked for goes from IDLE to PENDING, which keeps nothing running (R39, R94). -/
theorem requestChangeover {w : Width} (h : TransportPath s t) : TransportPath s (t.requestChangeover w) := by
  unfold State.requestChangeover
  split
  · next idle _ => exact (h.setMags (by rw [idle]; rfl)).withdraw.paperChanged.headTest
  · exact h

theorem endChangeover (h : TransportPath s t) : TransportPath s t.endChangeover := by
  unfold State.endChangeover
  split
  · exact h
  · next waiting => exact (h.setMags (by rw [waiting]; rfl)).paperChanged
  · next m _ _ =>
    have hd : s.DriveRight → ((t.setMags { t.mags with change := .idle }).threadDrive m false).DriveRight := by
      cases m <;> exact h.drive
    exact (mark hd).paperChanged

theorem feedCutTest (h : TransportPath s t) : TransportPath s t.feedCutTest := by
  unfold State.feedCutTest
  split
  case h_1 target _ _ =>
    split
    · exact h
    · refine ite (annunciate (paperChanged (mark ?_))) h
      cases target <;> exact h.drive
  all_goals exact h

/-- A changeover that completes is reported behind the notice and the paper check, and the mark covers it (R41, R94). -/
theorem completeChangeover {m : MagId} {r : MagRec} (h : TransportPath s t) :
    TransportPath s (t.completeChangeover m r) := by
  unfold State.completeChangeover
  extract_lets _ idle
  have hd : s.DriveRight → idle.DriveRight := by cases m <;> exact h.drive
  exact annunciate (mark fun hs => ((refl idle).notify.paperChanged.headTest).drive (hd hs))

theorem usePaper {d : Nat} (h : TransportPath s t) : TransportPath s (t.usePaper d) := by
  unfold State.usePaper
  split
  · extract_lets left lowNow used shown
    have hshown : TransportPath s shown := ite h.putMag.notify.annunciate h.putMag
    exact ite hshown.putMag.notify.paperChanged.annunciate hshown
  · exact h

/-! ### Halts -/

/-- With the engine in a state that calls for it the transport is stopped at once, the purge OFF (R164). -/
theorem stopTransport (hd : s.DriveRight → t.DriveRight)
    (ht : t.due.transport = true ∨ t.transportFor = .stopped) :
    TransportPath s ((t.setWeb { t.web with purge := none }).setTransport .stopped) := by
  have hoff : s.DriveRight → (t.setWeb { t.web with purge := none }).DriveRight := hd
  refine ⟨fun hs => setTransport_driveRight (hoff hs) _, ?_⟩
  rw [setTransport_due, setTransport_transport, setTransport_transportFor]
  obtain hmarked | hstopped := ht
  · exact .inl hmarked
  · have hstate := transportFor_eq_stopped_iff.mp hstopped
    exact .inr (.inl ⟨rfl, transportFor_eq_stopped_iff.mpr hstate⟩)

/-- The engine goes to HALTED unmarked: what the blocks then do goes along a path from there, which leaves the
transport marked or called to stop, and it is stopped last (R164). -/
theorem haltEntry (h : TransportPath s t) : TransportPath s t.haltEntry := by
  unfold State.haltEntry
  extract_lets _ halted withdrawn sids voided ended
  have hpath : TransportPath halted ended := (refl halted).withdraw.abandon.voidSegments.endChangeover
  have hdrive : s.DriveRight → halted.DriveRight := h.drive
  refine stopTransport (fun hs => hpath.drive (hdrive hs)) ?_
  obtain hmarked | ⟨-, hstopped⟩ | ⟨-, -, hsame⟩ := hpath.reported
  · exact .inl hmarked
  · exact .inr hstopped
  · exact .inr hsame

theorem startHalt {cause : HaltCause} {ret : EngineState} {jam : Option (JamSource × Nat)} (h : TransportPath s t) :
    TransportPath s (t.startHalt cause ret jam) :=
  h.setStop.annunciate.haltEntry.notify

theorem joinHalt {cause : HaltCause} {jam : Option (JamSource × Nat)} (h : TransportPath s t) :
    TransportPath s (t.joinHalt cause jam) :=
  ite h h.setStop.annunciate.notify

theorem raiseCause {cause : HaltCause} {jam : Option (JamSource × Nat)} {back : Option EngineState}
    (h : TransportPath s t) : TransportPath s (t.raiseCause cause jam back) := by
  unfold State.raiseCause
  split
  · exact h
  · exact h.joinHalt
  all_goals exact h.startHalt

theorem raiseMiss (h : TransportPath s t) : TransportPath s t.raiseMiss :=
  have hcounted := h.setExpo (x := { t.expo with miss := min 3 (t.expo.miss + 1) }) rfl
  ite hcounted.raiseCause hcounted

/-! ### The Sorter -/

theorem grantBin {slot : Slot} {e : ChainEntry} (h : TransportPath s t) : TransportPath s (State.grantBin slot t e) :=
  h.setSorter

theorem grant {slot : Slot} {o : Order} (h : TransportPath s t) : TransportPath s (t.grant slot o) := by
  unfold State.grant
  split
  · exact h
  · exact ite h.setSorter.putOrder.leaveBinWait (h.foldl fun _ _ h => h.grantBin).putOrder.leaveBinWait

theorem raiseRouted {d : DropPoint} {units : Nat} (h : TransportPath s t) :
    TransportPath s (t.raiseRouted d units) := by
  unfold State.raiseRouted
  split
  · exact h
  · exact h.putPlace

theorem lowerRouted {d : DropPoint} {units : Nat} (h : TransportPath s t) :
    TransportPath s (t.lowerRouted d units) := by
  unfold State.lowerRouted
  split
  · exact h
  · exact h.putPlace

theorem raiseUsed {p : Container} {units : Nat} (h : TransportPath s t) : TransportPath s (t.raiseUsed p units) :=
  h.putPlace

theorem raiseReject (h : TransportPath s t) : TransportPath s t.raiseReject := h.setSorter

theorem setTransit {ts : List Item} (h : TransportPath s t) : TransportPath s (t.setTransit ts) := h.setSorter

theorem restartSort (h : TransportPath s t) : TransportPath s t.restartSort := ite h.setSorter.sortDrive h.setSorter

theorem jamItem {it : Item} (h : TransportPath s t) : TransportPath s (t.jamItem it) :=
  leftFlight (ite h.voidReport h)

theorem clearTransit : ∀ {ts : List Item} {t : State}, TransportPath s t → TransportPath s (State.clearTransit ts t)
  | [], _, h => h
  | _ :: _, _, h => by
    unfold State.clearTransit
    exact clearTransit h.setTransit.jamItem.lowerRouted

theorem sorterJam {new : Option Item} (h : TransportPath s t) : TransportPath s (t.sorterJam new) :=
  (h.clearTransit.foldl fun _ _ h => h.jamItem).setSorter.sortDrive.raiseCause

theorem acceptItem {kind : PrintKind} {c : Copy} {void : Option VoidCause} (h : TransportPath s t) :
    TransportPath s (t.acceptItem kind c void) := by
  unfold State.acceptItem
  extract_lets units dest first listed routed _ sent
  have hsent : TransportPath s sent := h.setTransit.raiseRouted.setLines rfl
  exact ite h.sorterJam (ite hsent.sortDrive.setSorter hsent)

theorem land {it : Item} (h : TransportPath s t) : TransportPath s (t.land it) := by
  unfold State.land
  split
  · exact h.raiseReject
  · exact ite h.raiseUsed.deliveryReport h.raiseUsed

theorem strike {p : Container} {units : Nat} (h : TransportPath s t) : TransportPath s (t.strike p units) := by
  unfold State.strike
  extract_lets b used
  have hused : TransportPath s used := h.raiseUsed
  split
  · exact hused.putPlace
  · exact hused.disturbedReport
  · exact hused.disturbedReport
  · exact hused

theorem misroute {it : Item} {struck : DropPoint} (h : TransportPath s t) : TransportPath s (t.misroute it struck) := by
  have hvoided := ite (c := it.void.isNone = true) (h.voidReport (c := it.copy) (cause := .misroute)) h
  unfold State.misroute
  refine disturbedReport ?_
  split
  · exact hvoided.strike
  · exact hvoided.raiseReject

theorem drop {point : DropPoint} (h : TransportPath s t) : TransportPath s (t.drop point) := by
  unfold State.drop
  split
  · exact h
  · exact (ite h.setTransit.lowerRouted.land h.setTransit.lowerRouted.misroute).leftFlight.restartSort

theorem voidItems {slot : Slot} (h : TransportPath s t) : TransportPath s (t.voidItems slot) := h.setTransit

/-! ### The engine state, the purge and the recovery -/

/-- The engine state may change for any other, since its change is marked (R183, R94). -/
theorem enterEngine {e : EngineState} (hd : s.DriveRight → t.DriveRight) : TransportPath s (t.enterEngine e) :=
  have hentered : TransportPath s ((t.setEngine { t.engine with state := e }).transportTest) := mark hd
  ite hentered.stripTest.prompt hentered.stripTest

theorem setCount {n : Nat} (h : TransportPath s t) : TransportPath s (t.setCount n) :=
  ite h.setCutter h.setCutter.prompt

theorem modeNotices {old new : Nat} (h : TransportPath s t) : TransportPath s (t.modeNotices old new) := by
  unfold State.modeNotices
  extract_lets lim warned blind
  have hwarned : TransportPath s warned := ite h.notify h
  have hblind : TransportPath s blind := ite hwarned.notify hwarned
  exact ite hblind.notify hblind

theorem startPurge (h : TransportPath s t) : TransportPath s t.startPurge := mark h.drive

theorem startRecovery {kind : RecoveryKind} {run : Nat} {ret : EngineState} {due : Bool} (h : TransportPath s t) :
    TransportPath s (t.startRecovery kind run ret due) :=
  h.setCutter

theorem recoverySuccess (h : TransportPath s t) : TransportPath s t.recoverySuccess := by
  unfold State.recoverySuccess
  extract_lets counted ret _ _ entered told
  have htold : TransportPath s told := notify (enterEngine h.setCount.drive)
  exact ite htold.startPurge htold

theorem recoveryFailure (h : TransportPath s t) : TransportPath s t.recoveryFailure :=
  h.setCount.setCutter.notify.raiseCause

theorem recoveryOutcome {found : Bool} (h : TransportPath s t) : TransportPath s (t.recoveryOutcome found) :=
  ite h.setCutter.recoverySuccess (ite h.setCutter.recoveryFailure h.setCutter)

/-! ### At the blade -/

theorem stroke {g : Segment} {atMark : Bool} (h : TransportPath s t) : TransportPath s (t.stroke g atMark) := by
  unfold State.stroke
  split <;> exact h.strobe

theorem openCheckOf {g : Segment} (h : TransportPath s t) : TransportPath s (t.openCheckOf g) := h.setCutter

theorem handOff (h : TransportPath s t) : TransportPath s t.handOff := by
  unfold State.handOff
  split
  · exact h
  split
  · exact h
  · exact h.acceptItem

section Blade

/- What is presented behind the segment that leaves goes along a path. -/
variable {next : State → State} {g : Segment}
  (hnext : ∀ {u : State}, TransportPath s u → TransportPath s (next u))

include hnext

theorem cutToWaste (h : TransportPath s t) : TransportPath s (t.cutToWaste next g) :=
  hnext (removeFront (strobe (ite h.voidOne h)))

theorem closePrint {found : Bool} (h : TransportPath s t) : TransportPath s (t.closePrint next found g) := by
  unfold State.closePrint
  extract_lets blind old voided recovering working counted cut handed left told
  have hvoided : TransportPath s voided := ite h.voidOne h
  have hcounted : TransportPath s counted := ite hvoided.recoveryOutcome (ite hvoided.setCount hvoided)
  have hleft : TransportPath s left := hnext hcounted.stroke.handOff.removeFront
  exact ite (ite hleft.modeNotices.raiseCause hleft.modeNotices) hleft

theorem closeStrip {found : Bool} (h : TransportPath s t) : TransportPath s (t.closeStrip next found g) :=
  hnext h.recoveryOutcome.stroke.removeFront

theorem closeCheck {found : Bool} (h : TransportPath s t) : TransportPath s (t.closeCheck next found g) := by
  unfold State.closeCheck
  extract_lets _ closed
  have hclosed : TransportPath s closed := h.setCutter
  exact ite (ite (hclosed.closeStrip hnext) (hclosed.cutToWaste hnext)) (hclosed.closePrint hnext)

theorem takePresented (h : TransportPath s t) : TransportPath s (t.takePresented next g) :=
  ite (h.cutToWaste hnext)
    (ite h.openCheckOf (ite (h.closeCheck hnext) (ite (h.closeCheck hnext) h.openCheckOf)))

end Blade

theorem serve : ∀ {fuel : Nat} {t : State}, TransportPath s t → TransportPath s (State.serve fuel t)
  | 0, _, h => h
  | fuel + 1, t, h => by
    unfold State.serve
    split
    · exact h
    · next front rest hq =>
      have hpresented := h.setQueue (q := { front with presented := true } :: rest) (by rw [hq]; rfl)
      exact ite (ite (serve h.removeFront) (hpresented.takePresented serve)) h

theorem serveBlade (h : TransportPath s t) : TransportPath s t.serveBlade := h.serve

theorem beginPurge (h : TransportPath s t) : TransportPath s t.beginPurge := by
  unfold State.beginPurge
  extract_lets begun
  have hbegun : TransportPath s begun := h.startPurge
  split
  · exact hbegun
  · exact hbegun.setCutter.cutToWaste serveBlade

theorem enterWorking {e : EngineState} (h : TransportPath s t) : TransportPath s (t.enterWorking e) :=
  have hentered := enterEngine h.drive
  ite hentered.beginPurge hentered

theorem missTest (h : TransportPath s t) : TransportPath s t.missTest := by
  unfold State.missTest
  split
  · exact h
  · exact ite (h.closeCheck serveBlade) h

/-! ### Strips and the purge's progress -/

theorem stripStep (h : TransportPath s t) : TransportPath s t.stripStep := by
  refine ite ?_ h
  split
  · exact ite (setCutter (enterSegment h.drive)) h
  split
  · exact ite h.requestChangeover h
  · exact h

/-- A purge that goes on keeps the transport running as before (R101, R94). -/
theorem countPurge {d : Nat} (h : TransportPath s t) : TransportPath s (t.countPurge d) := by
  unfold State.countPurge
  split
  · exact h
  · next going => exact setLines (setCutter (setWeb h rfl rfl (by rw [going]; rfl))) rfl

theorem purgeEndTest (h : TransportPath s t) : TransportPath s t.purgeEndTest := by
  unfold State.purgeEndTest
  split
  · exact h
  · exact ite (mark h.drive) h

/-! ### The selection pass -/

theorem visit {slot : Slot} {o : Order} (h : TransportPath s t) : TransportPath s (t.visit slot o).1 := by
  unfold State.visit
  split
  · exact h
  split
  case h_2 =>
    split
    · exact h.leaveBinWait
    split
    · exact h.joinBinWait
    · exact h
  all_goals exact h

theorem walk {look : State → Slot → Order → Option Found} :
    ∀ {slots : List Slot} {t : State}, TransportPath s t → TransportPath s (State.walk look slots t).1
  | [], _, h => h
  | slot :: rest, t, h => by
    unfold State.walk
    split
    · exact walk h
    · extract_lets v
      split
      · split
        · exact h.visit
        · exact walk h.visit
      · exact walk h.visit

theorem higherWalk (h : TransportPath s t) : TransportPath s t.higherWalk.1 := by
  unfold State.higherWalk
  extract_lets r
  split
  · exact h.walk
  · exact h.walk.walk

theorem handOver {c : Choice} (h : TransportPath s t) : TransportPath s (t.handOver c) := by
  unfold State.handOver
  refine prompt (enterCall ?_)
  split
  · exact ite h.grant h
  · exact h

theorem choose {high low : Option Choice} (h : TransportPath s t) : TransportPath s (t.choose high low).1 := by
  unfold State.choose
  split
  · split
    · exact h.setSched.handOver
    · exact h
  · exact h

theorem standardPart {high : Option Choice} (h : TransportPath s t) : TransportPath s (t.standardPart high).1 := by
  unfold State.standardPart
  extract_lets r p
  have hwalked : TransportPath s r.1 := h.walk
  split
  · split
    · exact hwalked.walk.requestChangeover
    · exact hwalked.walk
  · exact hwalked.choose
  · exact hwalked.choose

theorem pass (h : TransportPath s t) : TransportPath s t.pass.1 := by
  unfold State.pass
  extract_lets r
  have hwalked : TransportPath s r.1 := h.paperCheck.higherWalk
  split
  · exact hwalked.requestChangeover
  · exact hwalked.standardPart
  · exact hwalked.standardPart

theorem passes : ∀ {fuel : Nat} {t : State}, TransportPath s t → TransportPath s (State.passes fuel t)
  | 0, _, h => h
  | _ + 1, _, h => ite (ite (passes h.pass) h.pass) h

/-! ### The reactions before the transport's -/

theorem reactHead (h : TransportPath s t) : TransportPath s t.reactHead := ite h.exposeTest h
theorem reactPass (h : TransportPath s t) : TransportPath s t.reactPass := ite h.passes h
theorem reactCut (h : TransportPath s t) : TransportPath s t.reactCut := ite h.feedCutTest h
theorem reactStrip (h : TransportPath s t) : TransportPath s t.reactStrip := ite h.stripStep h

end State.TransportPath

end Sys2Proof.Machine
end

section
/-! PROOFS. The own effect of every event, and what the requests write, goes along a path of the transport (R94). -/

namespace Sys2Proof.Machine

open Sys2Proof

namespace State.TransportPath

variable {s t u : State}

/-! ### Events of the order link -/

theorem takeRx {e : RxEvent} (h : TransportPath s t) : TransportPath s (t.takeRx e) := by
  cases e with
  | bad => exact h.queueReply
  | frame f => exact ite h.setLink h.queueReply

theorem receiveByte {b : Byte} (h : TransportPath s t) : TransportPath s (t.receiveByte b) := by
  unfold State.receiveByte
  extract_lets r _ fed
  have hfed : TransportPath s fed := h.setLink
  split
  · exact hfed
  · exact hfed.takeRx

theorem receive {bytes : List Byte} (h : TransportPath s t) : TransportPath s (t.receive bytes) :=
  h.foldl fun _ _ h => h.receiveByte

theorem dropPartial (h : TransportPath s t) : TransportPath s t.dropPartial := by
  unfold State.dropPartial
  split
  · exact h
  · exact h.setLink.queueReply

/-- RESTART leaves the engine in SETUP with the transport STOPPED and its drive released (R187, R104). -/
theorem restarted (s t : State) : TransportPath s t.restarted := ⟨fun _ _ => rfl, .inr (.inl ⟨rfl, rfl⟩)⟩

theorem idleLink (h : TransportPath s t) : TransportPath s t.idleLink := h.same rfl

theorem replySent (h : TransportPath s t) : TransportPath s t.replySent := by
  unfold State.replySent
  split
  · exact h.idleLink
  · exact ite (restarted s t) h.setLink.idleLink

theorem noticeSent (h : TransportPath s t) : TransportPath s t.noticeSent :=
  ite h.setLink.idleLink.setLink.notify h.setLink.idleLink

theorem frameSent (h : TransportPath s t) : TransportPath s t.frameSent := by
  unfold State.frameSent
  split
  · exact h
  · exact h.replySent
  · exact h.noticeSent

/-! ### Events of the raster port and of the raster calls -/

theorem takeReady {tag : Nat} (h : TransportPath s t) : TransportPath s (t.takeReady tag) := by
  unfold State.takeReady
  split
  · exact h
  · exact ite (mark h.drive) h

/-- The early status of a call does not move it to another state (R80). -/
theorem setEarly {tag : Nat} {st : DoneStatus} (h : TransportPath s t) : TransportPath s (t.setEarly tag st) := by
  refine setExpo h ?_
  have hmoving : (Call.moving ∘ fun c => if c.tag = tag then { c with early := some st } else c) = Call.moving := by
    funext c
    by_cases hc : c.tag = tag <;> simp [hc, Call.moving]
  rw [List.any_map, hmoving]

theorem faultSegment {c : Call} (h : TransportPath s t) : TransportPath s (t.faultSegment c) := by
  unfold State.faultSegment
  split
  · exact h
  · exact h.voidOne

theorem takeDone {tag : Nat} {st : DoneStatus} (h : TransportPath s t) : TransportPath s (t.takeDone tag st) := by
  unfold State.takeDone
  split
  · exact h
  split
  · exact h
  · exact h
  · exact h.removeCall.raiseMiss
  · exact h.removeCall.raiseMiss
  · exact ite h.setEarly h
  · exact ite h.setEarly.faultSegment h
  · exact h.removeCall
  · exact h.faultSegment.removeCall

theorem readyExpired {tag : Nat} (h : TransportPath s t) : TransportPath s (t.readyExpired tag) := by
  unfold State.readyExpired
  split
  · exact h
  · exact ite h.cancelCall.raiseMiss h

theorem doneExpired {tag : Nat} (h : TransportPath s t) : TransportPath s (t.doneExpired tag) := by
  unfold State.doneExpired
  split
  · exact h
  · exact ite h.faultSegment.removeCall.raiseMiss h

theorem recordSent (h : TransportPath s t) : TransportPath s t.recordSent := ite (h.same rfl) h

/-! ### Events of the Sorter -/

theorem setPresence {p : Container} {on : Bool} (h : TransportPath s t) : TransportPath s (t.setPresence p on) :=
  h.putPlace

theorem disturbPlace {p : Container} (h : TransportPath s t) : TransportPath s (t.disturbPlace p) := by
  unfold State.disturbPlace
  extract_lets _ emptied
  have hemptied : TransportPath s emptied := h.putPlace
  split
  · exact hemptied
  split
  · exact hemptied
  · exact hemptied.disturbedReport.notify

theorem collectPlace {p : Container} (h : TransportPath s t) : TransportPath s (t.collectPlace p) := by
  unfold State.collectPlace
  cases (t.place p).owner with
  | none => exact h.freePlace
  | some slot => exact h.freePlace.tryFree

theorem emptied {p : Container} (h : TransportPath s t) : TransportPath s (t.emptied p) := by
  unfold State.emptied
  extract_lets sensed
  have hsensed : TransportPath s sensed := h.setPresence
  split
  · exact hsensed.disturbPlace
  · exact hsensed.collectPlace
  · exact hsensed.collectPlace
  · exact hsensed

theorem filled {p : Container} (h : TransportPath s t) : TransportPath s (t.filled p) :=
  ite h.setPresence.putPlace h.setPresence

theorem sortExpired (h : TransportPath s t) : TransportPath s t.sortExpired := ite h.sorterJam h

/-! ### Events of Stop Control -/

theorem setJam {j : JamSensor} {on : Bool} (h : TransportPath s t) : TransportPath s (t.setJam j on) := h.setStop

theorem setLatch {on : Bool} (h : TransportPath s t) : TransportPath s (t.setLatch on) := h.setStop

theorem takeJam {j : JamSensor} (h : TransportPath s t) : TransportPath s (t.takeJam j) := h.voidSegments.raiseCause

theorem jamAsserted {j : JamSensor} (h : TransportPath s t) : TransportPath s (t.jamAsserted j) :=
  ite h (ite (ite h.setJam.setLatch h.setJam.setLatch.takeJam) h.setJam)

theorem jamCleared {j : JamSensor} (h : TransportPath s t) : TransportPath s (t.jamCleared j) :=
  ite (ite h.setJam h.setJam.setLatch) h

theorem soakExpired (h : TransportPath s t) : TransportPath s t.soakExpired := ite h.voidSegments.notify.setStop h

theorem envelopeEdge (h : TransportPath s t) : TransportPath s t.envelopeEdge := by
  unfold State.envelopeEdge
  split
  · exact h
  · exact h.setStop.driveLamp

/-! ### Events of the web, the paper and the cutter -/

theorem moveWeb {d : Nat} (h : TransportPath s t) : TransportPath s (t.moveWeb d) :=
  setQueue (h.setLines rfl) List.isEmpty_map

theorem moveMark {d : Nat} (h : TransportPath s t) : TransportPath s (t.moveMark d) := h.setCutter

theorem followMove {d : Nat} (h : TransportPath s t) : TransportPath s (t.followMove d) :=
  h.exposureEndTest.exposeTest.countPurge.missTest.serveBlade.purgeEndTest

theorem encoder {d : Nat} (h : TransportPath s t) : TransportPath s (t.encoder d) :=
  ite h.moveWeb.usePaper.moveMark.followMove.headTest.stripTest.transportTest h

theorem senseMark (h : TransportPath s t) : TransportPath s t.senseMark := by
  refine ite ?_ h
  extract_lets _ placed
  have hplaced : TransportPath s placed := h.setCutter
  split
  · exact hplaced
  · exact hplaced.closeCheck serveBlade

theorem headSensed (h : TransportPath s t) : TransportPath s t.headSensed := by
  unfold State.headSensed
  split
  · exact h
  · exact h
  split
  · exact h
  · exact h.completeChangeover

theorem threadingExpired (h : TransportPath s t) : TransportPath s t.threadingExpired := by
  unfold State.threadingExpired
  split
  · exact h
  · exact h
  case h_3 m _ _ =>
    extract_lets _ released
    have hd : s.DriveRight → released.DriveRight := by cases m <;> exact h.drive
    exact raiseCause (mark fun hs => (refl released).paperChanged.drive (hd hs))

/-! ### Requests that move the engine -/

theorem clearMiss (h : TransportPath s t) : TransportPath s t.clearMiss := h.setExpo rfl

theorem setupFromWork (h : TransportPath s t) : TransportPath s t.setupFromWork := by
  unfold State.setupFromWork
  extract_lets cleared
  have hcleared : TransportPath s cleared := h.withdraw.dropAwaiting.endChangeover.clearMiss
  have hd : s.DriveRight → (cleared.setWeb { cleared.web with purge := none }).DriveRight := hcleared.drive
  exact enterEngine hd

theorem setupFromHalt (h : TransportPath s t) : TransportPath s t.setupFromHalt := by
  unfold State.setupFromHalt
  extract_lets _ freed voided _ _ cleared
  have hcleared : TransportPath s cleared := h.setStop.annunciate.voidSegments.dropAwaiting.clearMiss.setCutter
  have hd : s.DriveRight → (cleared.setEngine { cleared.engine with webUnknown := true }).DriveRight := hcleared.drive
  exact enterEngine hd

theorem goToWork (h : TransportPath s t) : TransportPath s t.goToWork :=
  ite h.startHalt (ite h.startRecovery.enterWorking h.enterWorking)

theorem clearCauses (h : TransportPath s t) : TransportPath s t.clearCauses :=
  ite h.setStop.annunciate.clearMiss h.setStop.annunciate

theorem endHalt (h : TransportPath s t) : TransportPath s t.endHalt :=
  enterWorking (ite h.setStop.startRecovery h.setStop)

theorem resumed (h : TransportPath s t) : TransportPath s t.resumed := ite h.clearCauses.endHalt h.clearCauses

theorem startFull (h : TransportPath s t) : TransportPath s t.startFull := by
  unfold State.startFull
  extract_lets ret begun _ freed
  have hfreed : TransportPath s freed := h.setCount.startRecovery.setStop.annunciate
  exact enterEngine hfreed.drive

/-! ### Requests that move orders -/

theorem createOrder {slot : Slot} {b : AdmitBody} (h : TransportPath s t) : TransportPath s (t.createOrder slot b) :=
  h.setOrders.putOrder.setSorter.setPricing.joinClassList.paperCheck.prompt

theorem stopOrder {slot : Slot} (h : TransportPath s t) : TransportPath s (t.stopOrder slot) :=
  h.withdraw.abandon.dropAwaiting.voidSegments.voidItems

theorem cancelPrinting {slot : Slot} {o : Order} (h : TransportPath s t) :
    TransportPath s (t.cancelPrinting slot o) := by
  unfold State.cancelPrinting
  extract_lets emptied stopped cancelling
  have hcancelling : TransportPath s cancelling := h.putOrder.leaveClassList.leaveRemake.stopOrder.modifyOrder
  exact ite hcancelling.endCancelling hcancelling

theorem cancelWaiting {slot : Slot} {o : Order} (h : TransportPath s t) : TransportPath s (t.cancelWaiting slot o) :=
  h.leaveClassList.leaveBinWait.freeRecord.notify

/-! ### Requests that write tables and limits -/

theorem replaceMag {m : MagId} {r : Option MagRec} (h : TransportPath s t) : TransportPath s (t.replaceMag m r) :=
  paperChanged (h.setMags (by rw [Magazines.put_change])) |>.annunciate

theorem setLimit {e : Nat × Nat} (h : TransportPath s t) : TransportPath s (t.setLimit e) := by
  unfold State.setLimit
  split
  · exact h.setSched.prompt
  · exact h.setSorter.prompt
  · exact h.setSorter
  · exact h.setSorter
  · exact h.setOrders
  · exact h.setStop
  · exact h.setCutter
  · exact h.setExpo rfl
  · exact h.setExpo rfl
  · exact h.setCutter
  · exact h

theorem putPattern {c : Condition} {p : Pattern} (h : TransportPath s t) : TransportPath s (t.putPattern c p) :=
  ite h.setStop.setStop.driveLamp h.setStop

end State.TransportPath

end Sys2Proof.Machine
end

section
/-! PROOFS. The end of an event and the answer to a request make the transport right (R94, R178), and so does every
command. -/

namespace Sys2Proof.Machine

open Sys2Proof

/-! ## The end of an event -/

section EndOfEvent

variable {s t : State}

theorem transportInv_queueReply (h : s.TransportInv) (r : Reply) : (s.queueReply r).TransportInv := by
  unfold State.queueReply
  split
  · exact h
  · exact h

theorem transportInv_startLink (h : s.TransportInv) : s.startLink.TransportInv := by
  unfold State.startLink
  split
  · split
    · exact h
    · split
      · exact h
      · exact h
  · exact h

theorem transportInv_startPort (h : s.TransportInv) : s.startPort.TransportInv := by
  unfold State.startPort
  split
  · exact h
  · exact h

theorem transportInv_setDue (h : s.TransportInv) (d : Due) : (s.setDue d).TransportInv := h

theorem transportInv_finish (h : s.TransportInv) : s.finish.TransportInv :=
  transportInv_setDue (transportInv_startPort (transportInv_startLink h)) _

/-- A path from a state with the right transport leaves it right or marked for the test. -/
theorem State.TransportPath.right_or_marked (h : s.TransportPath t) (hs : s.TransportInv) :
    t.due.transport = true ∨ t.web.transport = t.transportFor := by
  obtain hmarked | ⟨hstopped, hfor⟩ | ⟨-, htransport, hfor⟩ := h.reported
  · exact .inl hmarked
  · exact .inr (hstopped.trans hfor.symm)
  · exact .inr (htransport.trans (hs.1.trans hfor.symm))

/-- The reactions at the end of an event go along a path up to the last, which tests the transport. -/
theorem State.TransportPath.settle (h : s.TransportPath t) (hs : s.TransportInv) : t.settle.TransportInv :=
  have hreacted := h.reactHead.reactPass.reactCut.reactStrip.reactCut
  reactTransport_transportInv (hreacted.drive hs.2) (hreacted.right_or_marked hs)

end EndOfEvent

/-- An event whose own effect goes along a path keeps the transport right. -/
theorem transportInv_event {s : State} {f : State → State} (hs : s.TransportInv)
    (hf : ∀ {u : State}, u.TransportPath u → u.TransportPath (f u)) : (s.event f).TransportInv := by
  unfold State.event
  split
  · exact hs
  · exact transportInv_finish ((hf (.refl _)).settle (transportInv_setDue hs Due.none))

/-! ## Requests -/

/-- The state that the answer to a request goes on from: a refusal changes nothing (R179). -/
def Verdict.after (s : State) : Verdict → State
  | .refused _ => s
  | .accepted t _ => t

/-- The handling of each request, as the rows of the table give it (`exec`). -/
def Request.handler : Request → State → Verdict
  | .admitOrder b => handleAdmit b
  | .cancelOrder n => withOrder n handleCancel
  | .holdOrder n => withOrder n handleHold
  | .releaseOrder n => withOrder n handleRelease
  | .acceptOrder n => withOrder n handleAccept
  | .queryOrder n first => withOrder n (handleQueryOrder first)
  | .quoteOrder n first => withOrder n (handleQuote first)
  | .repriceOrder n => withOrder n handleReprice
  | .setSize i e => handleSetSize i e
  | .loadMagazine b => handleLoad b
  | .unloadMagazine m => handleUnload m
  | .setDrift d => handleSetDrift d
  | .setStations es => handleSetStations es
  | .setLimits es => handleSetLimits es
  | .setFaultCount v => handleSetFaultCount v
  | .setPrice b i e => handleSetPrice b i e
  | .clearPrice b i => handleClearPrice b i
  | .setPromotion i e => handleSetPromotion i e
  | .setTax c r => handleSetTax c r
  | .selectBank b => handleSelectBank b
  | .setPattern c r b => handleSetPattern c r b
  | .silence => handleSilence
  | .queryBins first => handleQueryBins first
  | .queryStatus part param first => handleQueryStatus part param first
  | .enterSetup => handleEnterSetup
  | .enterRun => handleEnterRun
  | .pause => handlePause
  | .continueRun => handleContinue
  | .resume => handleResume
  | .cutterRestart => handleCutterRestart
  | .restart => reportOnly []

theorem transportInv_answer {s : State} {v : Verdict} (hs : s.TransportInv) (hv : s.TransportPath (v.after s))
    (f : Frame) : (s.answer f v).TransportInv := by
  cases v with
  | refused code => exact transportInv_finish (transportInv_queueReply hs _)
  | accepted t data => exact transportInv_finish (transportInv_queueReply (hv.settle hs) _)

theorem transportInv_take {s t : State} {f : Frame} (hs : s.TransportInv) (h : s.take = some (f, t)) :
    t.TransportInv := by
  unfold State.take at h
  split at h
  · cases h
  · split at h
    · cases h
      exact hs
    · cases h

/-! ### The handling of each request -/

section Handling

variable {s : State}

/-- A check that refuses, before the handling goes on. -/
theorem State.TransportPath.refusedIf {c : Prop} [Decidable c] {code : RefusalCode} {v : Verdict}
    (h : s.TransportPath (v.after s)) :
    s.TransportPath ((if c then .refused code else v : Verdict).after s) := by
  split
  · exact .refl s
  · exact h

/-- A check that lets the handling go on, and refuses otherwise. -/
theorem State.TransportPath.acceptedIf {c : Prop} [Decidable c] {code : RefusalCode} {v : Verdict}
    (h : s.TransportPath (v.after s)) :
    s.TransportPath ((if c then v else .refused code : Verdict).after s) := by
  split
  · exact h
  · exact .refl s

/-- A check whose success the handling uses. -/
theorem State.TransportPath.acceptedWith {c : Prop} [Decidable c] {code : RefusalCode} {v : c → Verdict}
    (h : ∀ hc, s.TransportPath ((v hc).after s)) :
    s.TransportPath ((if hc : c then v hc else .refused code : Verdict).after s) := by
  split
  · exact h _
  · exact .refl s

theorem reportOnly_transportPath (data : List Byte) : s.TransportPath ((reportOnly data s).after s) := .refl s

theorem withOrder_transportPath {n : Nat} {handle : Slot → Order → State → Verdict}
    (h : ∀ slot o, s.TransportPath ((handle slot o s).after s)) :
    s.TransportPath ((withOrder n handle s).after s) := by
  unfold withOrder
  split
  · exact .refl s
  · exact h _ _

theorem handleAdmit_transportPath (b : AdmitBody) : s.TransportPath ((handleAdmit b s).after s) := by
  unfold handleAdmit
  split
  · exact .refl s
  · exact (State.TransportPath.refl s).createOrder

theorem handleCancel_transportPath (slot : Slot) (o : Order) : s.TransportPath ((handleCancel slot o s).after s) := by
  unfold handleCancel
  split
  · exact (State.TransportPath.refl s).cancelWaiting
  · exact (State.TransportPath.refl s).cancelPrinting
  all_goals exact .refl s

theorem handleHold_transportPath (slot : Slot) (o : Order) : s.TransportPath ((handleHold slot o s).after s) :=
  .acceptedIf (State.TransportPath.refl s).putOrder.leaveBinWait

theorem handleRelease_transportPath (slot : Slot) (o : Order) : s.TransportPath ((handleRelease slot o s).after s) := by
  unfold handleRelease
  split
  · split
    · exact (State.TransportPath.refl s).putOrder.prompt
    · exact .refl s
  · exact .refl s

theorem handleAccept_transportPath (slot : Slot) (o : Order) : s.TransportPath ((handleAccept slot o s).after s) :=
  .acceptedIf (State.TransportPath.refl s).putOrder.annunciate.tryFree

theorem handleQuote_transportPath (first : Nat) (slot : Slot) (o : Order) :
    s.TransportPath ((handleQuote first slot o s).after s) :=
  .refusedIf (reportOnly_transportPath _)

theorem handleReprice_transportPath (slot : Slot) (o : Order) : s.TransportPath ((handleReprice slot o s).after s) := by
  unfold handleReprice
  split
  · have hshown (x : Option Order) := (State.TransportPath.refl s).putOrder (slot := slot) (o := x) |>.annunciate
    exact .ite (hshown _).notify.tryFree (hshown _)
  · exact .refl s

theorem writeSize_transportPath (ix : Fin 32) (z : Option SizeEntry) : s.TransportPath ((writeSize ix z s).after s) :=
  .refusedIf (.refusedIf ((State.TransportPath.refl s).setMags rfl))

theorem handleSetSize_transportPath (index : Nat) (entry : Option SizeBody) :
    s.TransportPath ((handleSetSize index entry s).after s) :=
  .refusedIf <| .acceptedWith fun _ => by
    split
    · exact writeSize_transportPath _ _
    split
    · exact .refl s
    · exact writeSize_transportPath _ _

theorem handleLoad_transportPath (b : LoadBody) : s.TransportPath ((handleLoad b s).after s) :=
  .refusedIf <| by
    split
    · exact .refusedIf (.refusedIf (State.TransportPath.refl s).replaceMag)
    · exact .refl s

theorem handleUnload_transportPath (mag : Nat) : s.TransportPath ((handleUnload mag s).after s) :=
  .refusedIf <| by
    split
    · exact .refl s
    refine .refusedIf ?_
    split
    · exact .refl s
    · exact (State.TransportPath.refl s).replaceMag

theorem handleSetDrift_transportPath (drift : Rgb Int) : s.TransportPath ((handleSetDrift drift s).after s) :=
  .acceptedIf ((State.TransportPath.refl s).setMags rfl)

theorem handleSetStations_transportPath (entries : List (Nat × Nat)) :
    s.TransportPath ((handleSetStations entries s).after s) :=
  .refusedIf (.acceptedIf ((State.TransportPath.refl s).setWeb rfl rfl rfl))

theorem handleSetLimits_transportPath (entries : List (Nat × Nat)) :
    s.TransportPath ((handleSetLimits entries s).after s) :=
  .refusedIf <| .refusedIf <| .refusedIf <| .refusedIf <| (State.TransportPath.refl s).foldl fun _ _ h => h.setLimit

theorem handleSetFaultCount_transportPath (value : Nat) : s.TransportPath ((handleSetFaultCount value s).after s) :=
  .refusedIf (.refusedIf (State.TransportPath.refl s).setCount.setCutter)

theorem handleSetPrice_transportPath (bank index : Nat) (b : PriceBody) :
    s.TransportPath ((handleSetPrice bank index b s).after s) :=
  .refusedIf <| .acceptedWith fun _ => .acceptedWith fun _ => by
    split
    · exact .refl s
    · exact .refusedIf (.refusedIf (State.TransportPath.refl s).setPricing)

theorem handleClearPrice_transportPath (bank index : Nat) : s.TransportPath ((handleClearPrice bank index s).after s) :=
  .refusedIf <| .acceptedWith fun _ => .acceptedWith fun _ => .refusedIf (State.TransportPath.refl s).setPricing

theorem handleSetPromotion_transportPath (index : Nat) (entry : Option PromoBody) :
    s.TransportPath ((handleSetPromotion index entry s).after s) :=
  .acceptedWith fun _ => by
    split
    · exact (State.TransportPath.refl s).setPricing
    split
    · exact .refl s
    · exact (State.TransportPath.refl s).setPricing

theorem handleSetTax_transportPath (category rate : Nat) : s.TransportPath ((handleSetTax category rate s).after s) :=
  .refusedIf <| .acceptedWith fun _ => .acceptedIf (State.TransportPath.refl s).setPricing

theorem handleSelectBank_transportPath (bank : Nat) : s.TransportPath ((handleSelectBank bank s).after s) :=
  .acceptedWith fun _ => (State.TransportPath.refl s).setPricing

theorem handleSetPattern_transportPath (condition rates : Nat) (buzzer : Bool) :
    s.TransportPath ((handleSetPattern condition rates buzzer s).after s) :=
  .refusedIf <| by
    split
    · exact .refl s
    · exact .refusedIf (State.TransportPath.refl s).putPattern

theorem handleSilence_transportPath : s.TransportPath ((handleSilence s).after s) :=
  (State.TransportPath.refl s).setStop.driveLamp

theorem plainPart_transportPath {t : State} (h : s.TransportPath t) (param first : Nat) (parts : List Part) :
    s.TransportPath ((plainPart param first parts t).after s) := by
  unfold plainPart
  split
  · exact h
  · exact .refl s

theorem handleQueryStatus_transportPath (part param first : Nat) :
    s.TransportPath ((handleQueryStatus part param first s).after s) := by
  have hrefl := State.TransportPath.refl s
  unfold handleQueryStatus
  split
  case h_5 => split <;> exact hrefl
  case h_7 => split <;> exact hrefl
  case h_8 =>
    have hcounted : s.TransportPath (if s.stop.soak.isSome then s.setFree (s.free + 1) else s) :=
      .ite (hrefl.same rfl) hrefl
    exact plainPart_transportPath hcounted _ _ _
  case h_9 => exact hrefl
  all_goals exact plainPart_transportPath hrefl _ _ _

theorem handleEnterSetup_transportPath : s.TransportPath ((handleEnterSetup s).after s) := by
  unfold handleEnterSetup
  split
  · exact .refl s
  · exact .refl s
  · exact .refusedIf (State.TransportPath.refl s).setupFromWork
  · exact .refusedIf (State.TransportPath.refl s).setupFromWork
  · exact (State.TransportPath.refl s).setupFromHalt

theorem handleEnterRun_transportPath : s.TransportPath ((handleEnterRun s).after s) :=
  .refusedIf <| .refusedIf <| .refusedIf <| .refusedIf (State.TransportPath.refl s).goToWork

theorem handlePause_transportPath : s.TransportPath ((handlePause s).after s) := by
  unfold handlePause
  split
  · exact .refl s
  · have hpaused : s.TransportPath (s.enterEngine .paused) := .enterEngine id
    exact hpaused.withdraw
  all_goals exact .refl s

theorem handleContinue_transportPath : s.TransportPath ((handleContinue s).after s) := by
  unfold handleContinue
  split
  · exact .refl s
  · have hrun : s.TransportPath (s.enterEngine .run) := .enterEngine id
    exact hrun
  all_goals exact .refl s

theorem handleResume_transportPath : s.TransportPath ((handleResume s).after s) :=
  .refusedIf (.refusedIf (State.TransportPath.refl s).resumed)

theorem handleCutterRestart_transportPath : s.TransportPath ((handleCutterRestart s).after s) :=
  .refusedIf (.refusedIf (State.TransportPath.refl s).startFull)

/-- Every request is handled along a path. -/
theorem handler_transportPath : ∀ r : Request, s.TransportPath ((r.handler s).after s)
  | .admitOrder b => handleAdmit_transportPath b
  | .cancelOrder _ => withOrder_transportPath handleCancel_transportPath
  | .holdOrder _ => withOrder_transportPath handleHold_transportPath
  | .releaseOrder _ => withOrder_transportPath handleRelease_transportPath
  | .acceptOrder _ => withOrder_transportPath handleAccept_transportPath
  | .queryOrder _ _ => withOrder_transportPath fun _ _ => reportOnly_transportPath _
  | .quoteOrder _ first => withOrder_transportPath (handleQuote_transportPath first)
  | .repriceOrder _ => withOrder_transportPath handleReprice_transportPath
  | .setSize i e => handleSetSize_transportPath i e
  | .loadMagazine b => handleLoad_transportPath b
  | .unloadMagazine m => handleUnload_transportPath m
  | .setDrift d => handleSetDrift_transportPath d
  | .setStations es => handleSetStations_transportPath es
  | .setLimits es => handleSetLimits_transportPath es
  | .setFaultCount v => handleSetFaultCount_transportPath v
  | .setPrice b i e => handleSetPrice_transportPath b i e
  | .clearPrice b i => handleClearPrice_transportPath b i
  | .setPromotion i e => handleSetPromotion_transportPath i e
  | .setTax c r => handleSetTax_transportPath c r
  | .selectBank b => handleSelectBank_transportPath b
  | .setPattern c r b => handleSetPattern_transportPath c r b
  | .silence => handleSilence_transportPath
  | .queryBins _ => reportOnly_transportPath _
  | .queryStatus part param first => handleQueryStatus_transportPath part param first
  | .enterSetup => handleEnterSetup_transportPath
  | .enterRun => handleEnterRun_transportPath
  | .pause => handlePause_transportPath
  | .continueRun => handleContinue_transportPath
  | .resume => handleResume_transportPath
  | .cutterRestart => handleCutterRestart_transportPath
  | .restart => reportOnly_transportPath _

end Handling

/-- A row of the table, which handles requests by their handlers alone, keeps the transport right. -/
theorem transportInv_request {s : State} {row : Request → Option (State → Verdict)} (hs : s.TransportInv)
    (hrow : ∀ r handle, row r = some handle → handle = r.handler) : (s.request row).TransportInv := by
  unfold State.request
  split
  · exact hs
  · next f t htake =>
    split
    · exact hs
    · next handle hhandle =>
      obtain ⟨r, -, hr⟩ := Option.bind_eq_some_iff.mp hhandle
      rw [hrow r handle hr]
      exact transportInv_answer (transportInv_take hs htake) (handler_transportPath r) f

/-! ## The commands -/

section Commands

variable {s : State}

/-- A delivered record is an event of its own, and any other frame leaves no trace (R70). -/
theorem transportInv_deliverRecord (hs : s.TransportInv) (e : RxEvent) : (s.deliverRecord e).TransportInv := by
  unfold State.deliverRecord
  split
  · exact hs
  split
  · exact hs
  · exact transportInv_event hs (·.takeReady)
  · exact transportInv_event hs (·.takeDone)

theorem transportInv_rasterByte (hs : s.TransportInv) (b : Byte) : (s.rasterByte b).TransportInv := by
  unfold State.rasterByte
  extract_lets r _ fed
  have hfed : fed.TransportInv := hs
  split
  · exact hfed
  · exact transportInv_deliverRecord hfed _

theorem transportInv_rasterBytes (hs : s.TransportInv) (bytes : List Byte) (stalls : Bool) :
    (s.rasterBytes bytes stalls).TransportInv := by
  have hfed : (bytes.foldl State.rasterByte s).TransportInv := by
    induction bytes generalizing s with
    | nil => exact hs
    | cons b bytes ih => exact ih (transportInv_rasterByte hs b)
  unfold State.rasterBytes
  split
  · exact hfed
  · exact hfed

theorem transportInv_setPresence (hs : s.TransportInv) (p : Container) (on : Bool) :
    (s.setPresence p on).TransportInv := by
  cases p <;> exact hs

/-- Power-on leaves the engine in SETUP with the transport STOPPED and its drive released (R188). -/
theorem transportInv_powerOn (cause : ResetCause) : (s.powerOn cause).TransportInv := ⟨rfl, fun _ => rfl⟩

/-- The asserted RESET line releases the outputs, and the transport stays where it was (R188). -/
theorem transportInv_resetLineAsserted (hs : s.TransportInv) :
    ((s.setEngine { s.engine with resetAsserted := true }).setLines Lines.released).TransportInv :=
  ⟨hs.1, fun released => Bool.noConfusion released⟩

end Commands

/-- The state after a command has a right transport, where the one before had. -/
theorem transportInv_exec {s t : State} (c : Instr) (hs : s.TransportInv) (h : exec c s = .next t) :
    t.TransportInv := by
  cases c <;> cases h
  case powerOn => exact ⟨rfl, fun _ => rfl⟩
  case resetLine => exact transportInv_powerOn _
  case resetLineAsserted => exact transportInv_resetLineAsserted hs
  case malformed =>
    split
    · exact hs
    · next f u htake =>
      split
      · exact hs
      · exact transportInv_answer (v := .refused .malformed) (transportInv_take hs htake) (.refl _) f
  case rasterFrameDiscard bytes stalls =>
    split
    · exact hs
    · exact transportInv_rasterBytes hs bytes stalls
  case presenceEmpty place =>
    split
    · exact transportInv_setPresence hs _ _
    · exact transportInv_event hs (·.emptied)
  case presenceOccupied place =>
    split
    · exact transportInv_setPresence hs _ _
    · exact transportInv_event hs (·.filled)
  case jamSensorAsserted sensor =>
    split
    · exact hs
    · exact transportInv_event hs (·.jamAsserted)
  case jamSensorClear sensor =>
    split
    · exact hs
    · exact transportInv_event hs (·.jamCleared)
  case requestFrame bytes => exact transportInv_event hs (·.receive)
  case frameTimeout => exact transportInv_event hs (·.dropPartial)
  case frameSent => exact transportInv_event hs (·.frameSent)
  case ready tag => exact transportInv_event hs (·.takeReady)
  case done tag status => exact transportInv_event hs (·.takeDone)
  case readyTimerExpired tag => exact transportInv_event hs (·.readyExpired)
  case doneTimerExpired tag => exact transportInv_event hs (·.doneExpired)
  case exposureBegin => exact transportInv_event hs (·.exposeTest)
  case exposureEnd => exact transportInv_event hs (·.exposureEndTest)
  case rasterRecordSent => exact transportInv_event hs (·.recordSent)
  case sortTimerExpired => exact transportInv_event hs (·.sortExpired)
  case dropEvent point => exact transportInv_event hs (·.drop)
  case soakTimerExpired => exact transportInv_event hs (·.soakExpired)
  case annunciatorEnvelopeEdge => exact transportInv_event hs (·.envelopeEdge)
  case encoderEvent distance => exact transportInv_event hs (·.encoder)
  case markSensed => exact transportInv_event hs (·.senseMark)
  case paperAtHead => exact transportInv_event hs (·.headSensed)
  case threadingTimerExpired => exact transportInv_event hs (·.threadingExpired)
  case feedCut => exact transportInv_event hs (·.feedCutTest)
  case markStripEntry => exact transportInv_event hs (·.stripStep)
  case purgeEnd => exact transportInv_event hs (·.purgeEndTest)
  -- Every other command is the row of one request.
  all_goals
    refine transportInv_request hs fun r handle hr => ?_
    split at hr <;> cases hr
    rfl

end Sys2Proof.Machine

namespace Sys2Proof.Settled

open Sys2Proof Sys2Proof.Machine

/-- Settles O8: every command's effect goes along a path on which each change of what decides the transport is marked,
and the test at the end of the event then makes it right. -/
theorem transportInvariant : Obligations.TransportInvariant := by
  intro s t hs h
  unfold step at h
  split at h
  · cases h
    exact hs
  · next c rest _ => exact transportInv_exec (s := s.setPending rest) c hs h

end Sys2Proof.Settled
end

section
/-! PROOFS. A drop event that finds the transit list empty (R134). -/

namespace Sys2Proof.Machine

open Sys2Proof

theorem exec_dropEvent (point : DropPoint) (s : State) :
    exec (.dropEvent point) s = .next (s.event (State.drop · point)) := rfl

theorem drop_of_transit_nil {s : State} (point : DropPoint) (h : s.sorter.transit = []) : s.drop point = s := by
  simp [State.drop, h]

end Sys2Proof.Machine

namespace Sys2Proof.Settled

open Sys2Proof Sys2Proof.Machine

/-- Settles O51: with no oldest item to confirm or to misroute a drop has no effect, and an event with no effect keeps
the state, whether or not the RESET line is asserted. -/
theorem dropWithNothingInTransit : Obligations.DropWithNothingInTransit := by
  intro s point hempty hd
  rw [exec_dropEvent, event_of_no_effect_of_due_none hd (drop_of_transit_nil point hempty)]

end Sys2Proof.Settled
end

section
/-! PROOFS. The gross of a line (R153). -/

namespace Sys2Proof.Machine

open Sys2Proof

theorem graduated_single (below : Nat) (t : Tier) (q : Nat) : graduated below [t] q = (q - below) * t.price := rfl

theorem graduated_cons_cons (below : Nat) (t u : Tier) (ts : List Tier) (q : Nat) :
    graduated below (t :: u :: ts) q = (min q t.ending - below) * t.price + graduated t.ending (u :: ts) q := rfl

theorem tierPrice_single (t : Tier) (k : Nat) : tierPrice [t] k = t.price := rfl

theorem tierPrice_cons_cons (t u : Tier) (ts : List Tier) (k : Nat) :
    tierPrice (t :: u :: ts) k = if k ≤ t.ending then t.price else tierPrice (u :: ts) k := rfl

theorem gross_graduated {e : PriceEntry} (h : e.mode = .graduated) (q : Nat) : e.gross q = graduated 0 e.tiers q := by
  simp [PriceEntry.gross, h]

theorem gross_block {e : PriceEntry} (h : e.mode = .block) (q : Nat) : e.gross q = q * tierPrice e.tiers q := by
  simp [PriceEntry.gross, h]

/-- The recursion of `tierPrice` is the search that R153 words; `d` is never taken, for there is a last tier. -/
theorem tierPrice_eq_find (d : Tier) (k : Nat) {ts : List Tier} (hne : ts ≠ []) :
    tierPrice ts k = ((ts.find? fun t => decide (k ≤ t.ending)).getD (ts.getLastD d)).price := by
  induction ts with
  | nil => exact absurd rfl hne
  | cons t rest ih =>
    cases rest with
    | nil => by_cases hk : k ≤ t.ending <;> simp [tierPrice_single, hk]
    | cons u us =>
      rw [tierPrice_cons_cons]
      by_cases hk : k ≤ t.ending
      · simp [hk]
      · simpa [hk] using ih (List.cons_ne_nil u us)

theorem graduated_zero (below : Nat) (ts : List Tier) : graduated below ts 0 = 0 := by
  induction ts generalizing below with
  | nil => rfl
  | cons t rest ih =>
    cases rest with
    | nil => simp [graduated_single]
    | cons u us => simp [graduated_cons_cons, ih]

/-- One print more adds its own charge: the tiers from `below` on charge the counts above `below` alone, so of all the
summands of `graduated` the one of the tier of `q + 1` grows, and by the price of that tier. -/
theorem graduated_succ (q : Nat) {below : Nat} {ts : List Tier} (hbelow : ∀ t ∈ ts, below ≤ t.ending)
    (hasc : ts.Pairwise fun x y => x.ending < y.ending) :
    graduated below ts (q + 1) = graduated below ts q + if below ≤ q then tierPrice ts (q + 1) else 0 := by
  induction ts generalizing below with
  | nil => simp [graduated, tierPrice]
  | cons t rest ih =>
    cases rest with
    | nil =>
      simp only [graduated_single, tierPrice_single]
      split
      · next hq => rw [Nat.succ_sub hq, Nat.succ_mul]
      · next hq => simp [show q + 1 - below = 0 by omega, show q - below = 0 by omega]
    | cons u us =>
      obtain ⟨hnext, hasc⟩ := List.pairwise_cons.mp hasc
      have htail := ih (fun v hv => Nat.le_of_lt (hnext v hv)) hasc
      have hbt : below ≤ t.ending := hbelow t List.mem_cons_self
      simp only [graduated_cons_cons, tierPrice_cons_cons, htail]
      by_cases ht : t.ending ≤ q
      · -- Count `q + 1` lies above the tier `t`, whose summand has all its counts.
        have hmin : min (q + 1) t.ending = min q t.ending := by omega
        simp [hmin, ht, Nat.le_trans hbt ht, show ¬ q + 1 ≤ t.ending by omega, Nat.add_assoc]
      · -- Count `q + 1` lies at or below the end of `t`, and the later tiers charge nothing for it.
        have hq : q + 1 ≤ t.ending := by omega
        simp only [Nat.min_eq_left hq, Nat.min_eq_left (Nat.le_of_succ_le hq), if_neg ht, if_pos hq]
        split
        · next hb => rw [Nat.succ_sub hb, Nat.succ_mul]; omega
        · next hb => simp [show q + 1 - below = 0 by omega, show q - below = 0 by omega]

/-- The tier by tier product form of R153 is its sum over the counts 1..q. -/
theorem graduated_eq_sum_tierPrice (q : Nat) {ts : List Tier} (hasc : ts.Pairwise fun x y => x.ending < y.ending) :
    graduated 0 ts q = ((List.range q).map fun i => tierPrice ts (i + 1)).sum := by
  induction q with
  | zero => exact graduated_zero 0 ts
  | succ q ih =>
    have hcharge := graduated_succ q (fun t _ => Nat.zero_le t.ending) hasc
    rw [if_pos (Nat.zero_le q)] at hcharge
    rw [hcharge, ih, List.range_succ, List.map_append, List.sum_append_nat, List.map_singleton, List.sum_singleton]

end Sys2Proof.Machine

namespace Sys2Proof.Settled

open Sys2Proof Sys2Proof.Machine

/-- Settles O55: each count adds the price of its tier to the graduated sum, and the price of a tier is that of the
first whose ending quantity reaches the count, or of the last. -/
theorem grossOfALine : Obligations.GrossOfALine := by
  intro e q hne hasc
  simp only [← tierPrice_eq_find ⟨0, 0⟩ _ hne]
  exact ⟨fun hm => (gross_graduated hm q).trans (graduated_eq_sum_tierPrice q hasc), fun hm => gross_block hm q⟩

end Sys2Proof.Settled
end
